-- ==== Sys2Proof/Word.lean ====
section
/-! DEFINITION. The word types of the block: one byte of CAP or of the wire form, and the two bus widths
(spec/10_state.md R21, R22; spec/20_memory.md R60, R62). -/

namespace Sys2Proof

/-- One byte: a WireSample of CAP or one byte of the wire form (20_memory.md R60, R62). -/
abbrev Byte := BitVec 8

/-- A command word, and every 32-bit register (30_encoding.md R90, 10_state.md R22). -/
abbrev Word32 := BitVec 32

/-- The packet's width and the host bus's width (00_scope.md R3, 10_state.md R21). -/
abbrev Word256 := BitVec 256

end Sys2Proof
end

