-- ==== Sys2Proof/Syntax.lean ====
section
/-! DEFINITION. The 22 commands (spec/30_encoding.md R93), one constructor per row of spec/opcode_table.json. -/

namespace Sys2Proof

/-- A command. The operands are the 9-bit fields A and B of the word (30_encoding.md R90, R91); every other operand
comes from a register that the command's rule names. -/
inductive Instr where
  /-- NOP (40_control.md R111). -/
  | nop
  /-- SOFT_RESET (40_control.md R112). -/
  | softReset
  /-- LOAD_SHORT (41_bitslice_byteorder.md R122). -/
  | loadShort
  /-- SLICE shift, width (41_bitslice_byteorder.md R123): A = shift, B = width. -/
  | slice (shift width : BitVec 9)
  /-- PUSH_CLEAR (41_bitslice_byteorder.md R124). -/
  | pushClear
  /-- PUSH width (41_bitslice_byteorder.md R125): A = width. -/
  | push (width : BitVec 9)
  /-- CRC_CLEAR (42_crc16.md R143). -/
  | crcClear
  /-- CRC_BYTE byte (42_crc16.md R144): A[7:0] = the byte, and A[8] must be 0. -/
  | crcByte (a : BitVec 9)
  /-- CRC_COMPUTE (42_crc16.md R146). -/
  | crcCompute
  /-- CRC_VERIFY (42_crc16.md R147). -/
  | crcVerify
  /-- SCAN_INIT (43_burst_locator.md R166). -/
  | scanInit
  /-- SCAN_STEP (43_burst_locator.md R167). -/
  | scanStep
  /-- SCAN_RUN (43_burst_locator.md R168). -/
  | scanRun
  /-- MDEC_STEP (43_burst_locator.md R170). -/
  | mdecStep
  /-- MDEC_RUN (43_burst_locator.md R171). -/
  | mdecRun
  /-- LOCATE (43_burst_locator.md R172). -/
  | locate
  /-- RESOLVE (44_layout_resolver.md R205). -/
  | resolve
  /-- RESOLVE_PKT (44_layout_resolver.md R206). -/
  | resolvePkt
  /-- DECODE (45_packet_codec.md R224). -/
  | decode
  /-- ENCODE (45_packet_codec.md R225). -/
  | encode
  /-- DISSECT (45_packet_codec.md R226). -/
  | dissect
  /-- CRAFT (45_packet_codec.md R227). -/
  | craft
deriving DecidableEq, Repr

end Sys2Proof
end

