-- ==== Sys2Proof/WellFormed.lean ====
section
/-! DEFINITION. Which commands have a word: the one limit that the operand fields do not carry by their width
(spec/30_encoding.md R91, R92 item 4). -/

namespace Sys2Proof

/-- A command that a legal word can carry. A and B are 9-bit fields, and every value of a used field is legal, except
that CRC_BYTE needs A[8] = 0 (30_encoding.md R92 item 4, R94). -/
def Instr.wellFormed : Instr → Bool
  | .crcByte a => !a.getLsbD 8
  | .slice _ _ => true
  | .push _ => true
  | .nop => true
  | .softReset => true
  | .loadShort => true
  | .pushClear => true
  | .crcClear => true
  | .crcCompute => true
  | .crcVerify => true
  | .scanInit => true
  | .scanStep => true
  | .scanRun => true
  | .mdecStep => true
  | .mdecRun => true
  | .locate => true
  | .resolve => true
  | .resolvePkt => true
  | .decode => true
  | .encode => true
  | .dissect => true
  | .craft => true

end Sys2Proof
end

