-- ==== Sys2Proof/Decode.lean ====
section
/-! DEFINITION. The command word: its fields, the opcode table, the decoder and the encoder
(spec/30_encoding.md R90 to R94, spec/opcode_table.json). -/

namespace Sys2Proof

/-- OP, bits 7:0 (30_encoding.md R90). -/
def fieldOp (w : Word32) : BitVec 8 := w.extractLsb' 0 8

/-- A, bits 16:8 (30_encoding.md R90). -/
def fieldA (w : Word32) : BitVec 9 := w.extractLsb' 8 9

/-- B, bits 25:17 (30_encoding.md R90). -/
def fieldB (w : Word32) : BitVec 9 := w.extractLsb' 17 9

/-- RSV, bits 31:26, must be 0 (30_encoding.md R90). -/
def fieldRsv (w : Word32) : BitVec 6 := w.extractLsb' 26 6

/-- Why a word is no command (30_encoding.md R92, R94). The machine treats all four alike: IllegalCommand. -/
inductive DecodeError where
  /-- OP is no opcode of R93 (R92 item 1). -/
  | reservedOpcode
  /-- RSV is not 0 (R92 item 2). -/
  | reservedBits
  /-- An operand field that the command does not use is not 0 (R92 item 3). -/
  | unusedOperand
  /-- CRC_BYTE with A[8] = 1 (R92 item 4). -/
  | byteTooWide
deriving DecidableEq, Repr

/-- A command that uses neither A nor B: both must be 0 (30_encoding.md R92 item 3). -/
def decodePlain (w : Word32) (i : Instr) : Except DecodeError Instr :=
  if fieldA w = 0 ∧ fieldB w = 0 then .ok i else .error .unusedOperand

/-- PUSH: B must be 0 (30_encoding.md R93). -/
def decodePush (w : Word32) : Except DecodeError Instr :=
  if fieldB w = 0 then .ok (.push (fieldA w)) else .error .unusedOperand

/-- CRC_BYTE: B must be 0, and A[8] must be 0 (30_encoding.md R92 items 3 and 4). -/
def decodeCrcByte (w : Word32) : Except DecodeError Instr :=
  if fieldB w ≠ 0 then .error .unusedOperand
  else if (fieldA w).getLsbD 8 then .error .byteTooWide
  else .ok (.crcByte (fieldA w))

/-- The decoder (30_encoding.md R92, R93): total, rejecting by name. -/
def decode (w : Word32) : Except DecodeError Instr :=
  if fieldRsv w ≠ 0 then .error .reservedBits
  else match (fieldOp w).toNat with
    | 0x00 => decodePlain w .nop
    | 0x01 => decodePlain w .softReset
    | 0x10 => decodePlain w .loadShort
    | 0x11 => .ok (.slice (fieldA w) (fieldB w))
    | 0x12 => decodePlain w .pushClear
    | 0x13 => decodePush w
    | 0x20 => decodePlain w .crcClear
    | 0x21 => decodeCrcByte w
    | 0x22 => decodePlain w .crcCompute
    | 0x23 => decodePlain w .crcVerify
    | 0x30 => decodePlain w .scanInit
    | 0x31 => decodePlain w .scanStep
    | 0x32 => decodePlain w .scanRun
    | 0x33 => decodePlain w .mdecStep
    | 0x34 => decodePlain w .mdecRun
    | 0x35 => decodePlain w .locate
    | 0x40 => decodePlain w .resolve
    | 0x41 => decodePlain w .resolvePkt
    | 0x50 => decodePlain w .decode
    | 0x51 => decodePlain w .encode
    | 0x52 => decodePlain w .dissect
    | 0x53 => decodePlain w .craft
    | _ => .error .reservedOpcode

/-- The opcode of a command (30_encoding.md R93). -/
def Instr.opcode : Instr → BitVec 8
  | .nop => 0x00
  | .softReset => 0x01
  | .loadShort => 0x10
  | .slice _ _ => 0x11
  | .pushClear => 0x12
  | .push _ => 0x13
  | .crcClear => 0x20
  | .crcByte _ => 0x21
  | .crcCompute => 0x22
  | .crcVerify => 0x23
  | .scanInit => 0x30
  | .scanStep => 0x31
  | .scanRun => 0x32
  | .mdecStep => 0x33
  | .mdecRun => 0x34
  | .locate => 0x35
  | .resolve => 0x40
  | .resolvePkt => 0x41
  | .decode => 0x50
  | .encode => 0x51
  | .dissect => 0x52
  | .craft => 0x53

/-- The A field of a command's word: its first operand, 0 where the command uses none (30_encoding.md R91, R93). -/
def Instr.operandA : Instr → BitVec 9
  | .slice shift _ => shift
  | .push width => width
  | .crcByte a => a
  | _ => 0

/-- The B field of a command's word: SLICE's width, 0 elsewhere (30_encoding.md R91, R93). -/
def Instr.operandB : Instr → BitVec 9
  | .slice _ width => width
  | _ => 0

/-- The word `OP | (A << 8) | (B << 17)` of a format's fields (30_encoding.md R90). -/
def commandWord (op : BitVec 8) (a b : BitVec 9) : Word32 :=
  op.setWidth 32 ||| (a.setWidth 32 <<< 8) ||| (b.setWidth 32 <<< 17)

/-- The encoder: the word of a well-formed command (30_encoding.md R90, R93). -/
def encode (i : Instr) : Word32 := commandWord i.opcode i.operandA i.operandB

/-- One row of the opcode map: a word belongs to it when `word & mask = value` (30_encoding.md R92, R93). -/
structure OpcodeRow where
  mnemonic : String
  value : Word32
  mask : Word32
deriving DecidableEq, Repr

/-- The opcode map with its match and mask columns (30_encoding.md R93, opcode_table.json). -/
def opcodeTable : List OpcodeRow :=
  [⟨"NOP", 0x00000000, 0xFFFFFFFF⟩, ⟨"SOFT_RESET", 0x00000001, 0xFFFFFFFF⟩, ⟨"LOAD_SHORT", 0x00000010, 0xFFFFFFFF⟩,
   ⟨"SLICE", 0x00000011, 0xFC0000FF⟩, ⟨"PUSH_CLEAR", 0x00000012, 0xFFFFFFFF⟩, ⟨"PUSH", 0x00000013, 0xFFFE00FF⟩,
   ⟨"CRC_CLEAR", 0x00000020, 0xFFFFFFFF⟩, ⟨"CRC_BYTE", 0x00000021, 0xFFFF00FF⟩, ⟨"CRC_COMPUTE", 0x00000022, 0xFFFFFFFF⟩,
   ⟨"CRC_VERIFY", 0x00000023, 0xFFFFFFFF⟩, ⟨"SCAN_INIT", 0x00000030, 0xFFFFFFFF⟩, ⟨"SCAN_STEP", 0x00000031, 0xFFFFFFFF⟩,
   ⟨"SCAN_RUN", 0x00000032, 0xFFFFFFFF⟩, ⟨"MDEC_STEP", 0x00000033, 0xFFFFFFFF⟩, ⟨"MDEC_RUN", 0x00000034, 0xFFFFFFFF⟩,
   ⟨"LOCATE", 0x00000035, 0xFFFFFFFF⟩, ⟨"RESOLVE", 0x00000040, 0xFFFFFFFF⟩, ⟨"RESOLVE_PKT", 0x00000041, 0xFFFFFFFF⟩,
   ⟨"DECODE", 0x00000050, 0xFFFFFFFF⟩, ⟨"ENCODE", 0x00000051, 0xFFFFFFFF⟩, ⟨"DISSECT", 0x00000052, 0xFFFFFFFF⟩,
   ⟨"CRAFT", 0x00000053, 0xFFFFFFFF⟩]

/-- A word is legal exactly when one row of the opcode table matches it (30_encoding.md R92, last sentence). -/
def OpcodeRow.matchesWord (r : OpcodeRow) (w : Word32) : Bool := w &&& r.mask == r.value

/-- The command that the decoder reads from the low `nbits` bits of `w`, the bits above them 0: one command is one
32-bit word (30_encoding.md R90), so no byte order enters. -/
def decodeTableWord (nbits w : Nat) : Option Instr :=
  match decode (BitVec.ofNat 32 (w % 2 ^ nbits)) with
  | .ok i => some i
  | .error _ => none

end Sys2Proof
end

