-- ==== Sys2Proof/Machine/Params.lean ====
section
/-! DEFINITION. The constants that the source fixes, none of them configurable (spec/00_scope.md R6). -/

namespace Sys2Proof.Machine

/-- MIN_CAPTURE: the least CAP_LEN of a burst search (00_scope.md R6, 43_burst_locator.md R166). -/
def minCapture : Nat := 512

/-- RUN_LIMIT: consecutive identical samples that end a candidate (00_scope.md R6). -/
def runLimit : Nat := 3

/-- ACCEPT_WINDOW: `510 < runLength < 518`, both ends open (00_scope.md R6, R11). -/
def inAcceptWindow (runLength : Nat) : Bool := decide (510 < runLength) && decide (runLength < 518)

/-- PKT_BITS: the packet's length (00_scope.md R3, R6). -/
def pktBits : Nat := 256

/-- PKT_BYTES: the wire form's length (00_scope.md R6). -/
def pktBytes : Nat := 32

/-- SAMPLES_PER_BIT, of which the first is used (00_scope.md R6). -/
def samplesPerBit : Nat := 2

/-- PREFIX_BITS: the leading fixed fields, 3+3+3+7+7+24 (00_scope.md R6). -/
def prefixBits : Nat := 47

/-- DIVIDER of a known agency (00_scope.md R6). -/
def knownDivider : Nat := 64

/-- KNOWN_AGENCIES, a constant table (00_scope.md R6, 10_state.md R33). -/
def knownAgencies : List Nat := [10, 31]

/-- DIVIDER_MIN, DIVIDER_MAX and DIVIDER_STEP as a test (00_scope.md R6, 44_layout_resolver.md R201). -/
def legalDivider (d : Nat) : Bool := decide (48 ≤ d) && decide (d ≤ 184) && d % 8 == 0

/-- CRC_POLY (00_scope.md R6). -/
def crcPoly : BitVec 16 := 0x1021

/-- CRC_INIT (00_scope.md R6). -/
def crcInit : BitVec 16 := 0x0000

/-- CRC_SPAN_BYTES: the first 240 bits (00_scope.md R6). -/
def crcSpanBytes : Nat := 30

end Sys2Proof.Machine
end

