-- ==== Sys2Proof/Config.lean ====
section
/-! DEFINITION. What the spec leaves to an implementation: the size of the capture memory, and the free value of a
host read of a capture byte that nothing has written (spec/00_scope.md R7; spec/93_implementation_defined.md U2, U3). -/

namespace Sys2Proof

/-- CAP_SIZE, the number of bytes of the capture memory: a parameter with 512 ≤ CAP_SIZE ≤ 2^32 − 1
(00_scope.md R7, 93_implementation_defined.md U3). -/
structure CapSize where
  bytes : Nat
  atLeast : 512 ≤ bytes
  atMost : bytes ≤ 4294967295
deriving DecidableEq, Repr

/-- The CAP_SIZE of `State.reset`. DESIGN CHOICE, unsafe (log entry 4): the spec leaves the size open, and this is the
size its own programs use (95_test_vectors.md section 3). Every step works for every size. -/
def Config.capSize : CapSize := ⟨1024, by decide, by decide⟩

/-- FREE VALUE (log entry 7): what a host read of a CAP byte returns that nothing has written since the power-on reset
with the given number: one byte, the same on every read until it is written, that may differ per byte and per reset
(20_memory.md R72, 93_implementation_defined.md U2). -/
opaque Config.unwrittenCapByte : (powerCycle : Nat) → (index : Nat) → Byte

end Sys2Proof
end

