-- ==== Sys2Proof/Machine/State.lean ====
section
/-! DEFINITION. The state of the block as plain data: every register of spec/10_state.md R22, the capture memory and
the wire-input buffer (spec/20_memory.md R60, R62), the host's side, and the state after reset
(spec/70_reset_and_hazards.md R290). -/

namespace Sys2Proof.Machine

/-- Why a step stops. -/
inductive Fault where
  /-- The core read a CAP byte that nothing has written since the power-on reset; the index is reported. Raised by
  `capRead`. The spec asks for this stop (20_memory.md R72, 93_implementation_defined.md U1). Safe. -/
  | capByteUnwritten (index : Nat)
  /-- The core read CAP at an index not below CAP_SIZE. Raised by `capRead`. No reachable state does so
  (20_memory.md R61, 43_burst_locator.md R173; log entry 6). Safe. -/
  | capIndexOutside (index : Nat)
deriving DecidableEq, Repr

/-- Why an instruction has no meaning. -/
inductive Refusal where
  /-- Raised by an arm of `exec` whose instruction has no meaning yet; no arm does so in this model. Safe. -/
  | notModelled (mnemonic : String)
deriving DecidableEq, Repr

/-- SCAN_STATE, the locator's state (10_state.md R24). The values 5 to 7 are never produced
(93_implementation_defined.md U8; log entry 10). -/
inductive ScanState where
  | notStarted
  | idle
  | inBurst
  | accepted
  | notFound
deriving DecidableEq, Repr

/-- The fields of STATUS (10_state.md R23). Every other bit of STATUS reads 0 (log entry 10). -/
structure Status where
  pktValid : Bool
  layoutValid : Bool
  layoutKnown : Bool
  fieldsValid : Bool
  fieldsSplit : Bool
  crcValid : Bool
  crcMatch : Bool
  scanState : ScanState
deriving DecidableEq, Repr

/-- The codes ERR can hold (60_exceptions.md R260). Codes 9 to 255 are never produced (log entry 10). -/
inductive Err where
  | ok
  | captureTooShort
  | burstNotFound
  | invalidDivider
  | fieldOutOfRange
  | crcMismatch
  | layoutUnknown
  | notReady
  | illegalCommand
deriving DecidableEq, Repr

/-- The field output registers F_* (10_state.md R22, R29). -/
structure FieldRegs where
  header : BitVec 3
  tagType : BitVec 3
  appId : BitVec 3
  groupId : BitVec 7
  agencyId : BitVec 7
  serial : BitVec 24
  agencyFixed : BitVec 137
  pb1 : BitVec 144
  combined : BitVec 145
  hov : BitVec 8
  pb2 : BitVec 40
  crc : BitVec 16
deriving DecidableEq, Repr

/-- The field input registers I_* (10_state.md R22, R30). -/
structure InputRegs where
  header : Word256
  tagType : Word256
  appId : Word256
  groupId : Word256
  agencyId : Word256
  serial : Word256
  agencyFixed : Word256
  pb1 : Word256
  hov : Word256
  pb2 : Word256
deriving DecidableEq, Repr

/-- The capture memory: (index, byte) pairs with indices strictly rising. An index that is not listed holds no value
(20_memory.md R60, R72; log entry 5). -/
abbrev Memory := List Host.Cell

/-- One access of the host, or the reset input (10_state.md R21, 20_memory.md R60 to R64, 70_reset_and_hazards.md R290).
A write to the register index 0x00 (CMD) is the command write that runs a command (40_control.md R110). -/
inductive HostAccess where
  /-- `WR register, value`. -/
  | writeReg (index : BitVec 6) (value : Word256)
  /-- `RD register`. -/
  | readReg (index : BitVec 6)
  /-- `WRCAP index, byte`. -/
  | writeCap (index : Nat) (byte : Byte)
  /-- `RDCAP index`. -/
  | readCap (index : Nat)
  /-- `WRWIRE index, byte`: a write to WIRE_IN. -/
  | writeWireIn (index : Nat) (byte : Byte)
  /-- A read of WIRE_IN (20_memory.md R62). -/
  | readWireIn (index : Nat)
  /-- A write to WIRE_OUT, which is ignored (20_memory.md R63). -/
  | writeWireOut (index : Nat) (byte : Byte)
  /-- `RDWIRE index`: a read of WIRE_OUT. -/
  | readWireOut (index : Nat)
  /-- The reset input (70_reset_and_hazards.md R290; log entry 8). -/
  | powerOnReset
deriving DecidableEq, Repr

/-- The whole state. The registers stand in the order of 10_state.md R22; the last fields are the memories, the
configuration and the model's own host side. -/
structure State where
  /-- CMD: the last command word written (R22; reads return 0, R34; log entry 3). -/
  cmd : Word32
  /-- STATUS (R23). -/
  status : Status
  /-- ERR (60_exceptions.md R260). -/
  err : Err
  /-- ERR_INFO (60_exceptions.md R264). -/
  errInfo : Word32
  /-- CAP_LEN (R35). -/
  capLen : Word32
  /-- SCAN_POS. -/
  scanPos : Word32
  /-- RUN_START. -/
  runStart : Word32
  /-- RUN_LENGTH. -/
  runLength : Word32
  /-- CONSEC_ZEROS, written Z in 43_burst_locator.md. -/
  consecZeros : BitVec 2
  /-- CONSEC_ONES, written O in 43_burst_locator.md. -/
  consecOnes : BitVec 2
  /-- BURST_OFFSET. -/
  burstOffset : Word32
  /-- MDEC_COUNT. -/
  mdecCount : BitVec 9
  /-- MDEC_ACC. -/
  mdecAcc : Word256
  /-- PACKET (R27). -/
  packet : Word256
  /-- SLICE_OUT (R32). -/
  sliceOut : Word256
  /-- PUSH_ACC (R32). -/
  pushAcc : Word256
  /-- PUSH_VAL (R32). -/
  pushVal : Word256
  /-- CRC, the running register of the byte-serial unit (R31). -/
  crc : BitVec 16
  /-- CRC_EXPECTED (R31). -/
  crcExpected : BitVec 16
  /-- CRC_ACTUAL (R31). -/
  crcActual : BitVec 16
  /-- AGENCY_IN. -/
  agencyIn : BitVec 8
  /-- OVERRIDE_CTL: bit 0 is SUPPLIED. -/
  overrideCtl : BitVec 1
  /-- OVERRIDE_DIVIDER. -/
  overrideDivider : BitVec 16
  /-- DIVIDER (R28). -/
  divider : BitVec 16
  /-- AF_LEN (R28). -/
  afLen : BitVec 8
  /-- PB1_LEN (R28). -/
  pb1Len : BitVec 8
  /-- F_* (R29). -/
  fields : FieldRegs
  /-- I_* (R30). -/
  inputs : InputRegs
  /-- CAP (20_memory.md R60). -/
  cap : Memory
  /-- WIRE_IN (20_memory.md R62). -/
  wireIn : Vector Byte 32
  /-- CAP_SIZE, the parameter of 00_scope.md R7: no step changes it (log entry 4). -/
  capSize : CapSize
  /-- The model's own: the host's accesses still to come, in its program order (20_memory.md R75; log entry 1). -/
  host : List HostAccess
  /-- The model's own: the value that the last host read returned (10_state.md R21; log entry 9). -/
  readData : Word256
  /-- The model's own: how many power-on resets have happened since `State.reset` (log entries 7 and 8). -/
  powerCycles : Nat
deriving DecidableEq, Repr

/-- STATUS after reset: every flag 0 and SCAN_STATE = NotStarted (70_reset_and_hazards.md R290). -/
def Status.reset : Status :=
  { pktValid := false, layoutValid := false, layoutKnown := false, fieldsValid := false, fieldsSplit := false,
    crcValid := false, crcMatch := false, scanState := .notStarted }

/-- F_* after reset: 0 (10_state.md R22). -/
def FieldRegs.reset : FieldRegs :=
  { header := 0, tagType := 0, appId := 0, groupId := 0, agencyId := 0, serial := 0, agencyFixed := 0, pb1 := 0,
    combined := 0, hov := 0, pb2 := 0, crc := 0 }

/-- I_* after reset: 0 (10_state.md R22). -/
def InputRegs.reset : InputRegs :=
  { header := 0, tagType := 0, appId := 0, groupId := 0, agencyId := 0, serial := 0, agencyFixed := 0, pb1 := 0,
    hov := 0, pb2 := 0 }

/-- The block right after power-on reset (70_reset_and_hazards.md R290), for a capture memory of the given size: every
register 0, every WIRE_IN byte 0x00, no CAP byte with a value, and no host access to come. -/
def State.powerOn (capSize : CapSize) : State :=
  { cmd := 0, status := Status.reset, err := .ok, errInfo := 0, capLen := 0, scanPos := 0, runStart := 0,
    runLength := 0, consecZeros := 0, consecOnes := 0, burstOffset := 0, mdecCount := 0, mdecAcc := 0, packet := 0,
    sliceOut := 0, pushAcc := 0, pushVal := 0, crc := 0, crcExpected := 0, crcActual := 0, agencyIn := 0,
    overrideCtl := 0, overrideDivider := 0, divider := 0, afLen := 0, pb1Len := 0, fields := FieldRegs.reset,
    inputs := InputRegs.reset, cap := [], wireIn := Vector.replicate 32 0, capSize := capSize, host := [],
    readData := 0, powerCycles := 0 }

/-- The machine right after reset (70_reset_and_hazards.md R290), with the CAP_SIZE of log entry 4. -/
def State.reset : State := State.powerOn Config.capSize

end Sys2Proof.Machine
end

