-- ==== Sys2Proof/Machine/Operands.lean ====
section
/-! DEFINITION. Operand forms: natural-number slices and pushes, byte order, the packet's fields, the operands of a
layout and of the encoder (spec/00_scope.md R10, spec/20_memory.md R65, R66, spec/41_bitslice_byteorder.md R120, R121,
spec/45_packet_codec.md R220, R221, R223). -/

namespace Sys2Proof.Machine

/-- `mask(w) = 2^w − 1` (00_scope.md R10). -/
def mask (width : Nat) : Nat := 2 ^ width - 1

/-- `slice(P, shift, width) = (P >> shift) & mask(width)` over natural numbers (41_bitslice_byteorder.md R120). -/
def slice (p : Word256) (shift width : Nat) : Nat := (p.toNat >>> shift) &&& mask width

/-- `push(acc, value, width) = ((acc << width) | (value & mask(width))) mod 2^256` (41_bitslice_byteorder.md R121). -/
def pushField (acc value : Word256) (width : Nat) : Word256 :=
  BitVec.ofNat 256 ((acc.toNat <<< width) ||| (value.toNat &&& mask width))

/-- A value fits a field of `width` bits (41_bitslice_byteorder.md R125, 45_packet_codec.md R223). -/
def fits (value : Word256) (width : Nat) : Bool := decide (value.toNat < 2 ^ width)

/-- `sample(b)`: 1 if b ≠ 0x00, else 0 (43_burst_locator.md R160). -/
def sample (b : Byte) : Bool := b != 0

/-- Byte `j` of `to_bytes(P)`: `P[255 − 8j : 248 − 8j]`, for j below 32 (20_memory.md R65). -/
def wireByte (p : Word256) (j : Nat) : Byte := p.extractLsb' (248 - 8 * j) 8

/-- `to_bytes(P)`, byte 0 first (20_memory.md R65). -/
def toBytes (p : Word256) : List Byte := (List.range pktBytes).map (wireByte p)

/-- `from_bytes(B)` for bytes in wire order: each byte is shifted in below the earlier ones, so that byte j of 32 weighs
`2^(8·(31 − j))` (20_memory.md R66). -/
def fromBytes (bytes : List Byte) : Word256 :=
  bytes.foldl (fun acc b => (acc <<< 8) ||| b.setWidth 256) 0

/-- A field's value in a register of `w` bits: the slice `P[shift + width − 1 : shift]` (45_packet_codec.md R220, R221). -/
def packetField (w : Nat) (p : Word256) (shift width : Nat) : BitVec w := BitVec.ofNat w (slice p shift width)

/-- The packet's agency_id, `P[239:233]` (45_packet_codec.md R220). -/
def packetAgency (p : Word256) : Nat := slice p 233 7

/-- agency_fixed_len of divider d (44_layout_resolver.md R203). -/
def agencyFixedLen (d : Nat) : Nat := d - prefixBits

/-- programmable_block1_len of divider d (44_layout_resolver.md R203). -/
def pb1LenOf (d : Nat) : Nat := 192 - d

/-- A FieldLayout (00_scope.md R14, 44_layout_resolver.md R202). -/
inductive Layout where
  | known (divider : Nat)
  | unknown
deriving DecidableEq, Repr

/-- The layout that LAYOUT_KNOWN and DIVIDER hold (45_packet_codec.md R224). -/
def State.layout (s : State) : Layout :=
  if s.status.layoutKnown then .known s.divider.toNat else .unknown

/-- The override operand: `Some OVERRIDE_DIVIDER` when OVERRIDE_CTL[0] = 1 (44_layout_resolver.md R204). -/
def State.override (s : State) : Option Nat :=
  if s.overrideCtl = 1 then some s.overrideDivider.toNat else none

/-- The list W of the encoder: each input value with its field's width, from the most significant field down
(45_packet_codec.md R223). The position in the list is the FieldOutOfRange mask bit. -/
def encodeOperands (inputs : InputRegs) (d : Nat) : List (Word256 × Nat) :=
  [(inputs.header, 3), (inputs.tagType, 3), (inputs.appId, 3), (inputs.groupId, 7), (inputs.agencyId, 7),
   (inputs.serial, 24), (inputs.agencyFixed, agencyFixedLen d), (inputs.pb1, pb1LenOf d), (inputs.hov, 8),
   (inputs.pb2, 40)]

end Sys2Proof.Machine
end

