-- ==== Sys2Proof/Machine/Flags.lean ====
section
/-! DEFINITION. The STATUS word, the codes of SCAN_STATE and ERR, and the flag changes that several commands share
(spec/10_state.md R23, R24, R27; spec/60_exceptions.md R260). -/

namespace Sys2Proof.Machine

/-- The three-bit code of SCAN_STATE (10_state.md R24). -/
def ScanState.code : ScanState → BitVec 3
  | .notStarted => 0
  | .idle => 1
  | .inBurst => 2
  | .accepted => 3
  | .notFound => 4

/-- SCAN_STATE ∈ {Idle, InBurst}: a scan is under way (43_burst_locator.md R165, R167, R168). -/
def ScanState.scanning : ScanState → Bool
  | .notStarted => false
  | .idle => true
  | .inBurst => true
  | .accepted => false
  | .notFound => false

/-- The code of ERR (60_exceptions.md R260). -/
def Err.code : Err → BitVec 8
  | .ok => 0
  | .captureTooShort => 1
  | .burstNotFound => 2
  | .invalidDivider => 3
  | .fieldOutOfRange => 4
  | .crcMismatch => 5
  | .layoutUnknown => 6
  | .notReady => 7
  | .illegalCommand => 8

/-- The STATUS register as the host reads it: flags in bits 0 to 6, SCAN_STATE in bits 10:8, every other bit 0
(10_state.md R23). -/
def Status.word (st : Status) : Word32 :=
  0#21 ++ st.scanState.code ++ 0#1 ++ BitVec.ofBool st.crcMatch ++ BitVec.ofBool st.crcValid
    ++ BitVec.ofBool st.fieldsSplit ++ BitVec.ofBool st.fieldsValid ++ BitVec.ofBool st.layoutKnown
    ++ BitVec.ofBool st.layoutValid ++ BitVec.ofBool st.pktValid

/-- FIELDS_VALID, FIELDS_SPLIT, CRC_VALID and CRC_MATCH <- 0: what a packet write and SCAN_INIT do to results derived
from an earlier packet (10_state.md R27, 43_burst_locator.md R166). -/
def Status.dropDerived (st : Status) : Status :=
  { st with fieldsValid := false, fieldsSplit := false, crcValid := false, crcMatch := false }

/-- CrcMismatch's ERR_INFO, `(expected << 16) | actual` (60_exceptions.md R264). -/
def mismatchInfo (expected actual : BitVec 16) : Word32 := (expected.setWidth 32 <<< 16) ||| actual.setWidth 32

/-- NotReady bit 0, no packet (60_exceptions.md R264). -/
def noPacketBit (st : Status) : Word32 := if st.pktValid then 0 else 1

/-- NotReady bit 1, no layout (60_exceptions.md R264). -/
def noLayoutBit (st : Status) : Word32 := if st.layoutValid then 0 else 2

end Sys2Proof.Machine
end

