-- ==== Sys2Proof/Machine/Ops.lean ====
section
/-! DEFINITION. The shared operations: the capture memory, the packet write, how a command ends (its one error
mechanism), and the CRC unit (spec/20_memory.md R60 to R72, spec/10_state.md R27, spec/40_control.md R110, R113,
spec/60_exceptions.md R262, R263, spec/42_crc16.md R140 to R145). -/

namespace Sys2Proof.Machine

/-! ### The capture memory -/

/-- The byte at an index, none where nothing has written it (20_memory.md R60, R72). -/
def Memory.read : Memory → Nat → Option Byte
  | [], _ => none
  | (a, b) :: rest, i => if a = i then some b else Memory.read rest i

/-- Store a byte, keeping the indices strictly rising. An unlisted index holds no value, so every byte written is
listed. -/
def Memory.write : Memory → Nat → Byte → Memory
  | [], i, v => [(i, v)]
  | (a, b) :: rest, i, v =>
    if i < a then (i, v) :: (a, b) :: rest
    else if i = a then (i, v) :: rest
    else (a, b) :: Memory.write rest i v

/-- Every listed index is above `i`, and the indices rise strictly. -/
def Memory.wfAbove : Nat → Memory → Bool
  | _, [] => true
  | i, (a, _) :: rest => decide (i < a) && Memory.wfAbove a rest

/-- The canonical form: indices strictly rising (no entry can equal what an unlisted index reads as, which is no
value). -/
def Memory.wf : Memory → Bool
  | [] => true
  | (a, _) :: rest => Memory.wfAbove a rest

/-- `CapRead(i)`, the core's read of CAP (00_scope.md R12). A byte that nothing has written is a fault (20_memory.md R72,
93_implementation_defined.md U1); so is an index not below CAP_SIZE, which no reachable state reads (20_memory.md R61;
log entry 6). -/
def capRead (s : State) (i : Nat) : Except Fault Byte :=
  if i < s.capSize.bytes then
    match Memory.read s.cap i with
    | some b => .ok b
    | none => .error (.capByteUnwritten i)
  else .error (.capIndexOutside i)

/-- WIRE_IN in wire order (20_memory.md R62). -/
def State.wireInBytes (s : State) : List Byte := s.wireIn.toList

/-- `WIRE_OUT[j]`, a view of PACKET (20_memory.md R63). -/
def wireOutByte (s : State) (j : Nat) : Byte := wireByte s.packet j

/-- `WritePacket(v)`, the only way PACKET changes apart from the resets (10_state.md R27). -/
def writePacket (v : Word256) (s : State) : State :=
  { s with packet := v, status := { s.status.dropDerived with pktValid := true } }

/-! ### How a command ends -/

/-- What running a command's pseudocode comes to (40_control.md R110). -/
inductive CmdResult where
  /-- It ran to its end without an error. -/
  | done (s : State)
  /-- It ran to its end and made `report E(info)` (60_exceptions.md R263). -/
  | reported (e : Err) (info : Word32) (s : State)
  /-- It ended by `raise E(info)`; the writes made before stay (60_exceptions.md R262). -/
  | raised (e : Err) (info : Word32) (s : State)
  /-- The model stops. -/
  | faulted (f : Fault)
deriving DecidableEq, Repr

/-- The next line, or the next part of a compound command: it runs unless a raise ended the command
(40_control.md R113, 60_exceptions.md R262). A report is kept unless a later part ends otherwise (60_exceptions.md R263). -/
def CmdResult.andThen (r : CmdResult) (k : State → CmdResult) : CmdResult :=
  match r with
  | .done s => k s
  | .reported e info s =>
    match k s with
    | .done s' => .reported e info s'
    | other => other
  | .raised e info s => .raised e info s
  | .faulted f => .faulted f

/-- The outcome registers: ERR <- E, ERR_INFO <- info (40_control.md R110). -/
def State.withOutcome (s : State) (e : Err) (info : Word32) : State := { s with err := e, errInfo := info }

/-- The end of every command (40_control.md R110): a raise and a report both leave their code and detail in ERR and
ERR_INFO, everything else leaves OK and 0. This is the block's only error mechanism: it has no trap entry, no vector
and no return from one (60_exceptions.md R262, R263, R268, R269). -/
def conclude : CmdResult → Host.Outcome State Fault Refusal
  | .done s => .next (s.withOutcome .ok 0)
  | .reported e info s => .next (s.withOutcome e info)
  | .raised e info s => .next (s.withOutcome e info)
  | .faulted f => .fault f

/-- A command that needs a packet: NotReady(1) when PKT_VALID = 0, before anything changes (60_exceptions.md R265). -/
def needPacket (s : State) (body : State → CmdResult) : CmdResult :=
  if s.status.pktValid then body s else .raised .notReady 1 s

/-! ### The CRC unit -/

/-- One left shift of the CRC register, with the polynomial added when bit 15 was 1 (42_crc16.md R140). -/
def crcShift (c : BitVec 16) : BitVec 16 := if c.msb then (c <<< 1) ^^^ crcPoly else c <<< 1

/-- `crcShift` n times. -/
def crcShifts : Nat → BitVec 16 → BitVec 16
  | 0, c => c
  | n + 1, c => crcShifts n (crcShift c)

/-- `crc_update(c, b)`: the register after one data byte (42_crc16.md R140; log entry 14). -/
def crcUpdate (c : BitVec 16) (b : Byte) : BitVec 16 := crcShifts 8 (c ^^^ (b.setWidth 16 <<< 8))

/-- `crc16_xmodem(bytes)` (42_crc16.md R141). -/
def crc16 (bytes : List Byte) : BitVec 16 := bytes.foldl crcUpdate crcInit

/-- `compute(P)`: the CRC of the first 30 wire bytes (42_crc16.md R142). -/
def computeCrc (p : Word256) : BitVec 16 := crc16 ((toBytes p).take crcSpanBytes)

/-- The packet's stored CRC, `P[15:0]` (45_packet_codec.md R220). -/
def storedCrc (p : Word256) : BitVec 16 := p.setWidth 16

/-- `verify(P)` with its effects, the last part of CRC_VERIFY, DECODE and DISSECT: expected = computed, actual = stored;
a mismatch is reported, not raised (42_crc16.md R145, R147; 60_exceptions.md R263). -/
def verifyPacket (s : State) : CmdResult :=
  let expected := computeCrc s.packet
  let actual := storedCrc s.packet
  let s' := { s with crcExpected := expected, crcActual := actual,
                     status := { s.status with crcValid := true, crcMatch := expected == actual } }
  if expected = actual then .done s' else .reported .crcMismatch (mismatchInfo expected actual) s'

end Sys2Proof.Machine
end

