-- ==== Sys2Proof/Machine/BitSlice.lean ====
section
/-! DEFINITION. The bit-slice and byte-order commands (spec/41_bitslice_byteorder.md R122 to R125). -/

namespace Sys2Proof.Machine

/-- LOAD_SHORT: the packet is from_bytes of WIRE_IN (41_bitslice_byteorder.md R122). -/
def execLoadShort (s : State) : Host.Outcome State Fault Refusal :=
  conclude (.done (writePacket (fromBytes s.wireInBytes) s))

/-- SLICE: SLICE_OUT <- slice(PACKET, A, B); NotReady(1) without a packet (41_bitslice_byteorder.md R123). -/
def execSlice (shift width : BitVec 9) (s : State) : Host.Outcome State Fault Refusal :=
  conclude (needPacket s fun s =>
    .done { s with sliceOut := BitVec.ofNat 256 (slice s.packet shift.toNat width.toNat) })

/-- PUSH_CLEAR: PUSH_ACC <- 0 (41_bitslice_byteorder.md R124). -/
def execPushClear (s : State) : Host.Outcome State Fault Refusal := conclude (.done { s with pushAcc := 0 })

/-- PUSH: FieldOutOfRange(1 << 15) when PUSH_VAL does not fit A bits, else PUSH_ACC <- push(PUSH_ACC, PUSH_VAL, A)
(41_bitslice_byteorder.md R125). -/
def execPush (width : BitVec 9) (s : State) : Host.Outcome State Fault Refusal :=
  conclude (
    if fits s.pushVal width.toNat then .done { s with pushAcc := pushField s.pushAcc s.pushVal width.toNat }
    else .raised .fieldOutOfRange 0x8000 s)

end Sys2Proof.Machine
end

