-- ==== Sys2Proof/Machine/LayoutResolver.lean ====
section
/-! DEFINITION. The field layout resolver (spec/44_layout_resolver.md R200 to R206). -/

namespace Sys2Proof.Machine

/-- `known(a)`: the whole value is compared with the table (44_layout_resolver.md R200). -/
def knownAgency (a : Nat) : Bool := knownAgencies.contains a

/-- `resolve(a, ov)`, the tests in the source's order; the error carries the rejected divider
(44_layout_resolver.md R202). -/
def resolveLayout (a : Nat) (override : Option Nat) : Except Nat Layout :=
  if knownAgency a then .ok (.known knownDivider)
  else match override with
    | some d => if legalDivider d then .ok (.known d) else .error d
    | none => .ok .unknown

/-- The layout registers: LAYOUT_VALID, LAYOUT_KNOWN, DIVIDER, AF_LEN and PB1_LEN (44_layout_resolver.md R204). -/
def writeLayout (valid known : Bool) (divider afLen pb1Len : Nat) (s : State) : State :=
  { s with status := { s.status with layoutValid := valid, layoutKnown := known }, divider := BitVec.ofNat 16 divider,
           afLen := BitVec.ofNat 8 afLen, pb1Len := BitVec.ofNat 8 pb1Len }

/-- `ApplyResolve(a)` (44_layout_resolver.md R204): an invalid divider invalidates the layout and raises. -/
def applyResolve (a : Nat) (s : State) : CmdResult :=
  match resolveLayout a s.override with
  | .error d => .raised .invalidDivider (BitVec.ofNat 32 d) (writeLayout false false 0 0 0 s)
  | .ok (.known d) => .done (writeLayout true true d (agencyFixedLen d) (pb1LenOf d) s)
  | .ok .unknown => .done (writeLayout true false 0 0 0 s)

/-- RESOLVE: the agency in AGENCY_IN (44_layout_resolver.md R205). -/
def execResolve (s : State) : Host.Outcome State Fault Refusal := conclude (applyResolve s.agencyIn.toNat s)

/-- RESOLVE_PKT: the agency_id field of PACKET; NotReady(1) without a packet (44_layout_resolver.md R206). -/
def execResolvePkt (s : State) : Host.Outcome State Fault Refusal :=
  conclude (needPacket s fun s => applyResolve (packetAgency s.packet) s)

end Sys2Proof.Machine
end

