-- ==== Sys2Proof/Machine/Codec.lean ====
section
/-! DEFINITION. The packet word to field codec (spec/45_packet_codec.md R220 to R227). -/

namespace Sys2Proof.Machine

/-! ### Decoding -/

/-- agency_fixed of a layout: `P[208 : 256 − d]` with a known divider, 0 with an unknown layout
(45_packet_codec.md R221, R222, R224). -/
def decodeAgencyFixed (p : Word256) : Layout → BitVec 137
  | .known d => packetField 137 p (256 - d) (agencyFixedLen d)
  | .unknown => 0

/-- programmable_block1 of a layout: `P[255 − d : 64]` with a known divider, 0 with an unknown layout
(45_packet_codec.md R221, R222, R224). -/
def decodePb1 (p : Word256) : Layout → BitVec 144
  | .known d => packetField 144 p 64 (pb1LenOf d)
  | .unknown => 0

/-- `decode(P, L)` as the F_* registers hold it (45_packet_codec.md R220, R222, R224). -/
def decodePacket (p : Word256) (l : Layout) : FieldRegs :=
  { header := packetField 3 p 253 3, tagType := packetField 3 p 250 3, appId := packetField 3 p 247 3,
    groupId := packetField 7 p 240 7, agencyId := packetField 7 p 233 7, serial := packetField 24 p 209 24,
    agencyFixed := decodeAgencyFixed p l, pb1 := decodePb1 p l, combined := packetField 145 p 64 145,
    hov := packetField 8 p 56 8, pb2 := packetField 40 p 16 40, crc := packetField 16 p 0 16 }

/-- DECODE's body after its NotReady test: the fields, their flags, then the verification (45_packet_codec.md R224). -/
def decodeBody (s : State) : CmdResult :=
  verifyPacket { s with fields := decodePacket s.packet s.layout,
                        status := { s.status with fieldsSplit := s.status.layoutKnown, fieldsValid := true } }

/-- DECODE: NotReady with bit 0 for no packet and bit 1 for no layout, tested together (45_packet_codec.md R224). -/
def execDecode (s : State) : Host.Outcome State Fault Refusal :=
  conclude (
    let miss := noPacketBit s.status ||| noLayoutBit s.status
    if miss ≠ 0 then .raised .notReady miss s else decodeBody s)

/-! ### Encoding -/

/-- The mask of the values that do not fit their widths, the first value's bit being `2^j` (45_packet_codec.md R223). -/
def badFields : Nat → List (Word256 × Nat) → Nat
  | _, [] => 0
  | j, (v, width) :: rest => (if fits v width then 0 else 2 ^ j) + badFields (j + 1) rest

/-- Push every value in order (45_packet_codec.md R223). -/
def pushAll : Word256 → List (Word256 × Nat) → Word256
  | acc, [] => acc
  | acc, (v, width) :: rest => pushAll (pushField acc v width) rest

/-- `encode(I, d)`: FieldOutOfRange's mask, or the packet with its CRC computed (45_packet_codec.md R223). -/
def encodePacket (inputs : InputRegs) (d : Nat) : Except Nat Word256 :=
  let operands := encodeOperands inputs d
  if badFields 0 operands ≠ 0 then .error (badFields 0 operands)
  else
    let body := pushField (pushAll 0 operands) 0 16
    .ok (body ||| (computeCrc body).setWidth 256)

/-- ENCODE's body (45_packet_codec.md R225), which CRAFT runs too (R227). -/
def encodeBody (s : State) : CmdResult :=
  if !s.status.layoutValid then .raised .notReady 2 s
  else if !s.status.layoutKnown then .raised .layoutUnknown 0 s
  else match encodePacket s.inputs s.divider.toNat with
    | .error bad => .raised .fieldOutOfRange (BitVec.ofNat 32 bad) s
    | .ok v => .done (writePacket v s)

/-- ENCODE (45_packet_codec.md R225). -/
def execEncode (s : State) : Host.Outcome State Fault Refusal := conclude (encodeBody s)

/-! ### The compound commands -/

/-- DISSECT: resolve the packet's own agency, then DECODE's body; NotReady(1) without a packet (45_packet_codec.md R226). -/
def execDissect (s : State) : Host.Outcome State Fault Refusal :=
  conclude (needPacket s fun s => (applyResolve (packetAgency s.packet) s).andThen decodeBody)

/-- CRAFT: resolve the whole value of I_AGENCY_ID, then ENCODE's body (45_packet_codec.md R227). -/
def execCraft (s : State) : Host.Outcome State Fault Refusal :=
  conclude ((applyResolve s.inputs.agencyId.toNat s).andThen encodeBody)

end Sys2Proof.Machine
end

