-- ==== Sys2Proof/Machine/Control.lean ====
section
/-! DEFINITION. The control commands (spec/40_control.md R111, R112). -/

namespace Sys2Proof.Machine

/-- NOP: nothing but the outcome (40_control.md R111). -/
def execNop (s : State) : Host.Outcome State Fault Refusal := conclude (.done s)

/-- Every register that R22 marks "kept by SOFT_RESET = no" gets its reset value 0, and STATUS becomes 0; CAP_LEN,
PUSH_VAL, AGENCY_IN, OVERRIDE_CTL, OVERRIDE_DIVIDER, I_*, CAP and WIRE_IN stay (40_control.md R112). CMD, which R22 marks
"-", stays too (log entry 3). -/
def softResetState (s : State) : State :=
  { s with
    status := Status.reset, err := .ok, errInfo := 0, scanPos := 0, runStart := 0, runLength := 0, consecZeros := 0,
    consecOnes := 0, burstOffset := 0, mdecCount := 0, mdecAcc := 0, packet := 0, sliceOut := 0, pushAcc := 0, crc := 0,
    crcExpected := 0, crcActual := 0, divider := 0, afLen := 0, pb1Len := 0, fields := FieldRegs.reset }

/-- SOFT_RESET (40_control.md R112). -/
def execSoftReset (s : State) : Host.Outcome State Fault Refusal := conclude (.done (softResetState s))

end Sys2Proof.Machine
end

