-- ==== Sys2Proof/Machine/Crc.lean ====
section
/-! DEFINITION. The CRC-16/XMODEM commands (spec/42_crc16.md R143, R144, R146, R147). -/

namespace Sys2Proof.Machine

/-- CRC_CLEAR: CRC <- 0x0000 (42_crc16.md R143). -/
def execCrcClear (s : State) : Host.Outcome State Fault Refusal := conclude (.done { s with crc := crcInit })

/-- CRC_BYTE: CRC <- crc_update(CRC, A[7:0]) (42_crc16.md R144). -/
def execCrcByte (a : BitVec 9) (s : State) : Host.Outcome State Fault Refusal :=
  conclude (.done { s with crc := crcUpdate s.crc (a.setWidth 8) })

/-- CRC_COMPUTE: CRC_EXPECTED <- compute(PACKET); NotReady(1) without a packet (42_crc16.md R146). -/
def execCrcCompute (s : State) : Host.Outcome State Fault Refusal :=
  conclude (needPacket s fun s => .done { s with crcExpected := computeCrc s.packet })

/-- CRC_VERIFY: the verification, a mismatch reported; NotReady(1) without a packet (42_crc16.md R147). -/
def execCrcVerify (s : State) : Host.Outcome State Fault Refusal := conclude (needPacket s verifyPacket)

end Sys2Proof.Machine
end

