-- ==== Sys2Proof/Machine/Locator.lean ====
section
/-! DEFINITION. The burst locator and the Manchester bit decoder (spec/43_burst_locator.md R160 to R172). -/

namespace Sys2Proof.Machine

/-! ### The per-sample machine -/

/-- Close or discard a candidate: back to Idle with every counter 0 (43_burst_locator.md R162, R163). -/
def closeCandidate (s : State) : State :=
  { s with status := { s.status with scanState := .idle }, runStart := 0, runLength := 0, consecZeros := 0,
           consecOnes := 0 }

/-- Idle on the sample at index `i` (43_burst_locator.md R161). -/
def idleSample (i : Word32) (one : Bool) (s : State) : State :=
  if one then
    { s with status := { s.status with scanState := .inBurst }, runStart := i, runLength := 1, consecZeros := 0,
             consecOnes := 1 }
  else s

/-- InBurst on a 1 sample (43_burst_locator.md R162). -/
def burstOne (s : State) : State :=
  let s' := { s with runLength := s.runLength + 1, consecOnes := s.consecOnes + 1, consecZeros := 0 }
  if s'.consecOnes.toNat = runLimit then closeCandidate s' else s'

/-- InBurst at the third consecutive 0: accept, refuse a burst at the capture's start, or discard
(43_burst_locator.md R163, R164). -/
def evaluateBurst (s : State) : CmdResult :=
  if inAcceptWindow s.runLength.toNat then
    if s.runStart = 0 then
      .raised .burstNotFound 1 { s with status := { s.status with scanState := .notFound } }
    else
      .done { s with status := { s.status with scanState := .accepted }, burstOffset := s.runStart - 1, mdecCount := 0,
                     mdecAcc := 0 }
  else .done (closeCandidate s)

/-- InBurst on a 0 sample (43_burst_locator.md R163). -/
def burstZero (s : State) : CmdResult :=
  let s' := { s with runLength := s.runLength + 1, consecZeros := s.consecZeros + 1, consecOnes := 0 }
  if s'.consecZeros.toNat = runLimit then evaluateBurst s' else .done s'

/-- The sample `one`, read at index `i`, in the state SCAN_STATE (43_burst_locator.md R165, last line). Outside Idle and
InBurst no sample is taken: every caller tests that first. -/
def takeSample (i : Word32) (one : Bool) (s : State) : CmdResult :=
  match s.status.scanState with
  | .idle => .done (idleSample i one s)
  | .inBurst => if one then .done (burstOne s) else burstZero s
  | .notStarted => .done s
  | .accepted => .done s
  | .notFound => .done s

/-- `ScanStep()` (43_burst_locator.md R165): the end of the capture, or one sample. -/
def scanOnce (s : State) : CmdResult :=
  if s.capLen.toNat ≤ s.scanPos.toNat then
    .raised .burstNotFound 0 { s with status := { s.status with scanState := .notFound } }
  else
    match capRead s s.scanPos.toNat with
    | .error f => .faulted f
    | .ok b => takeSample s.scanPos (sample b) { s with scanPos := s.scanPos + 1 }

/-- The loop of SCAN_RUN for at most `n` rounds (43_burst_locator.md R168). -/
def scanLoop : Nat → State → CmdResult
  | 0, s => .done s
  | n + 1, s => if s.status.scanState.scanning then (scanOnce s).andThen (scanLoop n) else .done s

/-- The loop of SCAN_RUN: it runs at most max(CAP_LEN − SCAN_POS, 0) + 1 times (43_burst_locator.md R168;
log entry 13). -/
def scanAll (s : State) : CmdResult := scanLoop (s.capLen.toNat - s.scanPos.toNat + 1) s

/-- NotReady(4) unless a scan is under way (43_burst_locator.md R167, R168). -/
def needScanning (s : State) (body : State → CmdResult) : CmdResult :=
  if s.status.scanState.scanning then body s else .raised .notReady 4 s

/-! ### The Manchester bit decoder -/

/-- `MdecStep()` (43_burst_locator.md R169): one used sample, the next one skipped and not read. -/
def mdecOnce (s : State) : CmdResult :=
  let k := s.mdecCount.toNat
  match capRead s (s.burstOffset.toNat + samplesPerBit * k) with
  | .error f => .faulted f
  | .ok b =>
    let acc := (s.mdecAcc <<< 1) ||| (BitVec.ofBool (sample b)).setWidth 256
    let s' := { s with mdecAcc := acc, mdecCount := s.mdecCount + 1 }
    .done (if k + 1 = pktBits then writePacket acc s' else s')

/-- The loop of MDEC_RUN for at most `n` rounds (43_burst_locator.md R171). -/
def mdecLoop : Nat → State → CmdResult
  | 0, s => .done s
  | n + 1, s => if s.mdecCount.toNat < pktBits then (mdecOnce s).andThen (mdecLoop n) else .done s

/-- The loop of MDEC_RUN: 256 − MDEC_COUNT bit steps (43_burst_locator.md R171; log entry 13). -/
def mdecAll (s : State) : CmdResult := mdecLoop (pktBits - s.mdecCount.toNat) s

/-- NotReady(8) without an accepted burst, then NotReady(16) when decoding is complete (43_burst_locator.md R170, R171). -/
def needDecoding (s : State) (body : State → CmdResult) : CmdResult :=
  if s.status.scanState ≠ .accepted then .raised .notReady 8 s
  else if s.mdecCount.toNat = pktBits then .raised .notReady 16 s
  else body s

/-! ### The commands -/

/-- The clears of SCAN_INIT (43_burst_locator.md R166). -/
def scanCleared (s : State) : State :=
  { s with status := { s.status.dropDerived with pktValid := false }, scanPos := 0, runStart := 0, runLength := 0,
           consecZeros := 0, consecOnes := 0, burstOffset := 0, mdecCount := 0, mdecAcc := 0 }

/-- SCAN_INIT's body: the clears, then CaptureTooShort(CAP_LEN) or Idle (43_burst_locator.md R166). -/
def startScan (s : State) : CmdResult :=
  let s' := scanCleared s
  if s'.capLen.toNat < minCapture then
    .raised .captureTooShort s'.capLen { s' with status := { s'.status with scanState := .notStarted } }
  else .done { s' with status := { s'.status with scanState := .idle } }

/-- SCAN_INIT (43_burst_locator.md R166). -/
def execScanInit (s : State) : Host.Outcome State Fault Refusal := conclude (startScan s)

/-- SCAN_STEP (43_burst_locator.md R167). -/
def execScanStep (s : State) : Host.Outcome State Fault Refusal := conclude (needScanning s scanOnce)

/-- SCAN_RUN (43_burst_locator.md R168). -/
def execScanRun (s : State) : Host.Outcome State Fault Refusal := conclude (needScanning s scanAll)

/-- MDEC_STEP (43_burst_locator.md R170). -/
def execMdecStep (s : State) : Host.Outcome State Fault Refusal := conclude (needDecoding s mdecOnce)

/-- MDEC_RUN (43_burst_locator.md R171). -/
def execMdecRun (s : State) : Host.Outcome State Fault Refusal := conclude (needDecoding s mdecAll)

/-- LOCATE: the bodies of SCAN_INIT, SCAN_RUN and MDEC_RUN in order (43_burst_locator.md R172). -/
def execLocate (s : State) : Host.Outcome State Fault Refusal :=
  conclude (((startScan s).andThen scanAll).andThen mdecAll)

end Sys2Proof.Machine
end

