-- ==== Sys2Proof/Machine/Dispatch.lean ====
section
/-! DEFINITION. One arm per command (spec/30_encoding.md R93, spec/40_control.md R110). -/

namespace Sys2Proof.Machine

def exec (i : Instr) (s : State) : Host.Outcome State Fault Refusal :=
  match i with
  | .nop => Sys2Proof.Machine.execNop s
  | .softReset => Sys2Proof.Machine.execSoftReset s
  | .loadShort => Sys2Proof.Machine.execLoadShort s
  | .slice shift width => Sys2Proof.Machine.execSlice shift width s
  | .pushClear => Sys2Proof.Machine.execPushClear s
  | .push width => Sys2Proof.Machine.execPush width s
  | .crcClear => Sys2Proof.Machine.execCrcClear s
  | .crcByte a => Sys2Proof.Machine.execCrcByte a s
  | .crcCompute => Sys2Proof.Machine.execCrcCompute s
  | .crcVerify => Sys2Proof.Machine.execCrcVerify s
  | .scanInit => Sys2Proof.Machine.execScanInit s
  | .scanStep => Sys2Proof.Machine.execScanStep s
  | .scanRun => Sys2Proof.Machine.execScanRun s
  | .mdecStep => Sys2Proof.Machine.execMdecStep s
  | .mdecRun => Sys2Proof.Machine.execMdecRun s
  | .locate => Sys2Proof.Machine.execLocate s
  | .resolve => Sys2Proof.Machine.execResolve s
  | .resolvePkt => Sys2Proof.Machine.execResolvePkt s
  | .decode => Sys2Proof.Machine.execDecode s
  | .encode => Sys2Proof.Machine.execEncode s
  | .dissect => Sys2Proof.Machine.execDissect s
  | .craft => Sys2Proof.Machine.execCraft s

end Sys2Proof.Machine
end

