-- ==== Sys2Proof/Machine/Registers.lean ====
section
/-! DEFINITION. The register file as the host sees it: index, width, host access and SOFT_RESET column of every register
of spec/10_state.md R22, and the host's reads and writes of it (spec/10_state.md R21, R34, R35). -/

namespace Sys2Proof.Machine

/-- The registers of 10_state.md R22, in its order. -/
inductive RegName where
  | cmd | status | err | errInfo | capLen | scanPos | runStart | runLength | consecZeros | consecOnes
  | burstOffset | mdecCount | mdecAcc | packet | sliceOut | pushAcc | pushVal | crc | crcExpected | crcActual
  | agencyIn | overrideCtl | overrideDivider | divider | afLen | pb1Len | fHeader | fTagType | fAppId
  | fGroupId | fAgencyId | fSerial | fAgencyFixed | fPb1 | fCombined | fHov | fPb2 | fCrc | iHeader
  | iTagType | iAppId | iGroupId | iAgencyId | iSerial | iAgencyFixed | iPb1 | iHov | iPb2
deriving DecidableEq, Repr

/-- The host's access to a register (10_state.md R22): the column `host`. -/
inductive RegAccess where
  /-- `R`: the host may read it, and its writes are ignored. -/
  | r
  /-- `W`: the host may write it, and reads return 0. -/
  | w
  /-- `RW`: both. -/
  | rw
deriving DecidableEq, Repr

/-- What SOFT_RESET does to a register (10_state.md R22): the column "kept by SOFT_RESET". -/
inductive SoftResetRule where
  | kept
  | cleared
  /-- The `-` of CMD. -/
  | notApplicable
deriving DecidableEq, Repr

/-- A row of the register table (10_state.md R22). Every register's reset value is 0. -/
structure RegRow where
  name : String
  index : Nat
  width : Nat
  access : RegAccess
  softReset : SoftResetRule
deriving DecidableEq, Repr

/-- The register table (10_state.md R22). -/
def regRow : RegName → RegRow
  | .cmd => ⟨"CMD", 0x00, 32, .w, .notApplicable⟩
  | .status => ⟨"STATUS", 0x01, 32, .r, .cleared⟩
  | .err => ⟨"ERR", 0x02, 8, .r, .cleared⟩
  | .errInfo => ⟨"ERR_INFO", 0x03, 32, .r, .cleared⟩
  | .capLen => ⟨"CAP_LEN", 0x04, 32, .rw, .kept⟩
  | .scanPos => ⟨"SCAN_POS", 0x05, 32, .r, .cleared⟩
  | .runStart => ⟨"RUN_START", 0x06, 32, .r, .cleared⟩
  | .runLength => ⟨"RUN_LENGTH", 0x07, 32, .r, .cleared⟩
  | .consecZeros => ⟨"CONSEC_ZEROS", 0x08, 2, .r, .cleared⟩
  | .consecOnes => ⟨"CONSEC_ONES", 0x09, 2, .r, .cleared⟩
  | .burstOffset => ⟨"BURST_OFFSET", 0x0A, 32, .r, .cleared⟩
  | .mdecCount => ⟨"MDEC_COUNT", 0x0B, 9, .r, .cleared⟩
  | .mdecAcc => ⟨"MDEC_ACC", 0x0C, 256, .r, .cleared⟩
  | .packet => ⟨"PACKET", 0x0D, 256, .r, .cleared⟩
  | .sliceOut => ⟨"SLICE_OUT", 0x0E, 256, .r, .cleared⟩
  | .pushAcc => ⟨"PUSH_ACC", 0x0F, 256, .r, .cleared⟩
  | .pushVal => ⟨"PUSH_VAL", 0x10, 256, .rw, .kept⟩
  | .crc => ⟨"CRC", 0x11, 16, .r, .cleared⟩
  | .crcExpected => ⟨"CRC_EXPECTED", 0x12, 16, .r, .cleared⟩
  | .crcActual => ⟨"CRC_ACTUAL", 0x13, 16, .r, .cleared⟩
  | .agencyIn => ⟨"AGENCY_IN", 0x14, 8, .rw, .kept⟩
  | .overrideCtl => ⟨"OVERRIDE_CTL", 0x15, 1, .rw, .kept⟩
  | .overrideDivider => ⟨"OVERRIDE_DIVIDER", 0x16, 16, .rw, .kept⟩
  | .divider => ⟨"DIVIDER", 0x17, 16, .r, .cleared⟩
  | .afLen => ⟨"AF_LEN", 0x18, 8, .r, .cleared⟩
  | .pb1Len => ⟨"PB1_LEN", 0x19, 8, .r, .cleared⟩
  | .fHeader => ⟨"F_HEADER", 0x20, 3, .r, .cleared⟩
  | .fTagType => ⟨"F_TAG_TYPE", 0x21, 3, .r, .cleared⟩
  | .fAppId => ⟨"F_APP_ID", 0x22, 3, .r, .cleared⟩
  | .fGroupId => ⟨"F_GROUP_ID", 0x23, 7, .r, .cleared⟩
  | .fAgencyId => ⟨"F_AGENCY_ID", 0x24, 7, .r, .cleared⟩
  | .fSerial => ⟨"F_SERIAL", 0x25, 24, .r, .cleared⟩
  | .fAgencyFixed => ⟨"F_AGENCY_FIXED", 0x26, 137, .r, .cleared⟩
  | .fPb1 => ⟨"F_PB1", 0x27, 144, .r, .cleared⟩
  | .fCombined => ⟨"F_COMBINED", 0x28, 145, .r, .cleared⟩
  | .fHov => ⟨"F_HOV", 0x29, 8, .r, .cleared⟩
  | .fPb2 => ⟨"F_PB2", 0x2A, 40, .r, .cleared⟩
  | .fCrc => ⟨"F_CRC", 0x2B, 16, .r, .cleared⟩
  | .iHeader => ⟨"I_HEADER", 0x30, 256, .rw, .kept⟩
  | .iTagType => ⟨"I_TAG_TYPE", 0x31, 256, .rw, .kept⟩
  | .iAppId => ⟨"I_APP_ID", 0x32, 256, .rw, .kept⟩
  | .iGroupId => ⟨"I_GROUP_ID", 0x33, 256, .rw, .kept⟩
  | .iAgencyId => ⟨"I_AGENCY_ID", 0x34, 256, .rw, .kept⟩
  | .iSerial => ⟨"I_SERIAL", 0x35, 256, .rw, .kept⟩
  | .iAgencyFixed => ⟨"I_AGENCY_FIXED", 0x36, 256, .rw, .kept⟩
  | .iPb1 => ⟨"I_PB1", 0x37, 256, .rw, .kept⟩
  | .iHov => ⟨"I_HOV", 0x38, 256, .rw, .kept⟩
  | .iPb2 => ⟨"I_PB2", 0x39, 256, .rw, .kept⟩

/-- Every register, in the order of 10_state.md R22. -/
def allRegs : List RegName :=
  [.cmd, .status, .err, .errInfo, .capLen, .scanPos, .runStart, .runLength, .consecZeros, .consecOnes,
   .burstOffset, .mdecCount, .mdecAcc, .packet, .sliceOut, .pushAcc, .pushVal, .crc, .crcExpected, .crcActual,
   .agencyIn, .overrideCtl, .overrideDivider, .divider, .afLen, .pb1Len, .fHeader, .fTagType, .fAppId,
   .fGroupId, .fAgencyId, .fSerial, .fAgencyFixed, .fPb1, .fCombined, .fHov, .fPb2, .fCrc, .iHeader, .iTagType,
   .iAppId, .iGroupId, .iAgencyId, .iSerial, .iAgencyFixed, .iPb1, .iHov, .iPb2]

/-- The register at an index, none at an unassigned one (10_state.md R21, R22). -/
def regAt (index : BitVec 6) : Option RegName := allRegs.find? fun r => (regRow r).index == index.toNat

/-- What a register holds, zero-extended to the bus (10_state.md R21, R22). -/
def regValue (s : State) : RegName → Word256
  | .cmd => s.cmd.setWidth 256
  | .status => s.status.word.setWidth 256
  | .err => s.err.code.setWidth 256
  | .errInfo => s.errInfo.setWidth 256
  | .capLen => s.capLen.setWidth 256
  | .scanPos => s.scanPos.setWidth 256
  | .runStart => s.runStart.setWidth 256
  | .runLength => s.runLength.setWidth 256
  | .consecZeros => s.consecZeros.setWidth 256
  | .consecOnes => s.consecOnes.setWidth 256
  | .burstOffset => s.burstOffset.setWidth 256
  | .mdecCount => s.mdecCount.setWidth 256
  | .mdecAcc => s.mdecAcc
  | .packet => s.packet
  | .sliceOut => s.sliceOut
  | .pushAcc => s.pushAcc
  | .pushVal => s.pushVal
  | .crc => s.crc.setWidth 256
  | .crcExpected => s.crcExpected.setWidth 256
  | .crcActual => s.crcActual.setWidth 256
  | .agencyIn => s.agencyIn.setWidth 256
  | .overrideCtl => s.overrideCtl.setWidth 256
  | .overrideDivider => s.overrideDivider.setWidth 256
  | .divider => s.divider.setWidth 256
  | .afLen => s.afLen.setWidth 256
  | .pb1Len => s.pb1Len.setWidth 256
  | .fHeader => s.fields.header.setWidth 256
  | .fTagType => s.fields.tagType.setWidth 256
  | .fAppId => s.fields.appId.setWidth 256
  | .fGroupId => s.fields.groupId.setWidth 256
  | .fAgencyId => s.fields.agencyId.setWidth 256
  | .fSerial => s.fields.serial.setWidth 256
  | .fAgencyFixed => s.fields.agencyFixed.setWidth 256
  | .fPb1 => s.fields.pb1.setWidth 256
  | .fCombined => s.fields.combined.setWidth 256
  | .fHov => s.fields.hov.setWidth 256
  | .fPb2 => s.fields.pb2.setWidth 256
  | .fCrc => s.fields.crc.setWidth 256
  | .iHeader => s.inputs.header
  | .iTagType => s.inputs.tagType
  | .iAppId => s.inputs.appId
  | .iGroupId => s.inputs.groupId
  | .iAgencyId => s.inputs.agencyId
  | .iSerial => s.inputs.serial
  | .iAgencyFixed => s.inputs.agencyFixed
  | .iPb1 => s.inputs.pb1
  | .iHov => s.inputs.hov
  | .iPb2 => s.inputs.pb2

/-- A host read of a register: its value, 0 for one the host may not read (10_state.md R21, R22, R34). -/
def readReg (s : State) (r : RegName) : Word256 := if (regRow r).access = .w then 0 else regValue s r

/-- What CAP_LEN stores of a bus value: `min(v, CAP_SIZE)` of its low 32 bits (10_state.md R35). -/
def capLenStored (s : State) (v : Word256) : Word32 := BitVec.ofNat 32 (min (v.toNat % 2 ^ 32) s.capSize.bytes)

/-- A host write of a register other than CMD: the low `width` bits are kept, CAP_LEN is limited to CAP_SIZE, and a write
to an R register has no effect (10_state.md R21, R34, R35). The CMD write is `writeCmd` of HostBus.lean. -/
def writeReg (s : State) (v : Word256) : RegName → State
  | .cmd => s
  | .status => s
  | .err => s
  | .errInfo => s
  | .capLen => { s with capLen := capLenStored s v }
  | .scanPos => s
  | .runStart => s
  | .runLength => s
  | .consecZeros => s
  | .consecOnes => s
  | .burstOffset => s
  | .mdecCount => s
  | .mdecAcc => s
  | .packet => s
  | .sliceOut => s
  | .pushAcc => s
  | .pushVal => { s with pushVal := v }
  | .crc => s
  | .crcExpected => s
  | .crcActual => s
  | .agencyIn => { s with agencyIn := v.setWidth 8 }
  | .overrideCtl => { s with overrideCtl := v.setWidth 1 }
  | .overrideDivider => { s with overrideDivider := v.setWidth 16 }
  | .divider => s
  | .afLen => s
  | .pb1Len => s
  | .fHeader => s
  | .fTagType => s
  | .fAppId => s
  | .fGroupId => s
  | .fAgencyId => s
  | .fSerial => s
  | .fAgencyFixed => s
  | .fPb1 => s
  | .fCombined => s
  | .fHov => s
  | .fPb2 => s
  | .fCrc => s
  | .iHeader => { s with inputs := { s.inputs with header := v } }
  | .iTagType => { s with inputs := { s.inputs with tagType := v } }
  | .iAppId => { s with inputs := { s.inputs with appId := v } }
  | .iGroupId => { s with inputs := { s.inputs with groupId := v } }
  | .iAgencyId => { s with inputs := { s.inputs with agencyId := v } }
  | .iSerial => { s with inputs := { s.inputs with serial := v } }
  | .iAgencyFixed => { s with inputs := { s.inputs with agencyFixed := v } }
  | .iPb1 => { s with inputs := { s.inputs with pb1 := v } }
  | .iHov => { s with inputs := { s.inputs with hov := v } }
  | .iPb2 => { s with inputs := { s.inputs with pb2 := v } }

end Sys2Proof.Machine
end

