-- ==== Sys2Proof/Machine/HostBus.lean ====
section
/-! DEFINITION. The host's side: the CMD write that runs a command, and every other access of the host, each atomic and
one at a time in its program order (spec/10_state.md R20, R21, R34, spec/20_memory.md R60 to R63, R68, R70, R71, R75,
spec/40_control.md R110, spec/70_reset_and_hazards.md R290). -/

namespace Sys2Proof.Machine

/-- The command word of a CMD write: the low 32 bits of the bus value (10_state.md R21, 30_encoding.md R90). -/
def cmdWord (v : Word256) : Word32 := v.setWidth 32

/-- The command cycle for a word: IllegalCommand(w), with nothing else changed, or the command it decodes to
(40_control.md R110, 30_encoding.md R92). -/
def runWord (w : Word32) (s : State) : Host.Outcome State Fault Refusal :=
  match decode w with
  | .ok i => exec i s
  | .error _ => conclude (.raised .illegalCommand w s)

/-- A write to CMD: the word is latched (log entry 3) and run (40_control.md R110). -/
def writeCmd (v : Word256) (s : State) : Host.Outcome State Fault Refusal :=
  runWord (cmdWord v) { s with cmd := cmdWord v }

/-- A host write of a register index: CMD runs a command, an unassigned index ignores it (10_state.md R34). -/
def hostWriteReg (index : BitVec 6) (v : Word256) (s : State) : Host.Outcome State Fault Refusal :=
  match regAt index with
  | some .cmd => writeCmd v s
  | some r => .next (writeReg s v r)
  | none => .next s

/-- The value of a host read of a register index, 0 at an unassigned one (10_state.md R34). -/
def hostReadReg (s : State) (index : BitVec 6) : Word256 :=
  match regAt index with
  | some r => readReg s r
  | none => 0

/-- A host write of a CAP byte; at an index not below CAP_SIZE it has no effect (20_memory.md R61, R71). -/
def hostWriteCap (i : Nat) (b : Byte) (s : State) : State :=
  if i < s.capSize.bytes then { s with cap := Memory.write s.cap i b } else s

/-- The value of a host read of a CAP byte: 0 at an index not below CAP_SIZE (20_memory.md R71), and the free value of
log entry 7 where nothing has written the byte (20_memory.md R72, 93_implementation_defined.md U2). -/
def hostReadCap (s : State) (i : Nat) : Byte :=
  if i < s.capSize.bytes then
    match Memory.read s.cap i with
    | some b => b
    | none => Config.unwrittenCapByte s.powerCycles i
  else 0

/-- A host write of a WIRE_IN byte; at an index not below 32 it has no effect (20_memory.md R62, R71). -/
def hostWriteWireIn (j : Nat) (b : Byte) (s : State) : State :=
  if h : j < 32 then { s with wireIn := s.wireIn.set j b h } else s

/-- The value of a host read of a WIRE_IN byte, 0 at an index not below 32 (20_memory.md R62, R71). -/
def hostReadWireIn (s : State) (j : Nat) : Byte := if h : j < 32 then s.wireIn[j] else 0

/-- The value of a host read of a WIRE_OUT byte, 0 at an index not below 32 (20_memory.md R63, R71). -/
def hostReadWireOut (s : State) (j : Nat) : Byte := if j < 32 then wireOutByte s j else 0

/-- The reset input (70_reset_and_hazards.md R290): everything of the block as after reset; the host's own accesses to
come and the value it last read stay with the host (log entry 8). -/
def powerOnReset (s : State) : State :=
  { State.powerOn s.capSize with host := s.host, readData := s.readData, powerCycles := s.powerCycles + 1 }

/-- A host read puts its value on the bus and changes nothing else (20_memory.md R70). -/
def State.returning (s : State) (v : Word256) : State := { s with readData := v }

/-- One access of the host (20_memory.md R68, R70). -/
def hostAccess (a : HostAccess) (s : State) : Host.Outcome State Fault Refusal :=
  match a with
  | .writeReg index v => hostWriteReg index v s
  | .readReg index => .next (s.returning (hostReadReg s index))
  | .writeCap i b => .next (hostWriteCap i b s)
  | .readCap i => .next (s.returning ((hostReadCap s i).setWidth 256))
  | .writeWireIn j b => .next (hostWriteWireIn j b s)
  | .readWireIn j => .next (s.returning ((hostReadWireIn s j).setWidth 256))
  | .writeWireOut _ _ => .next s
  | .readWireOut j => .next (s.returning ((hostReadWireOut s j).setWidth 256))
  | .powerOnReset => .next (powerOnReset s)

/-- The next access of the host, or none to come: then the core waits (10_state.md R20; log entries 1 and 2). -/
def hostStep (s : State) : Host.Outcome State Fault Refusal :=
  match s.host with
  | [] => .next s
  | a :: rest => hostAccess a { s with host := rest }

/-- The CMD write of a word, as the host's next access. -/
def State.beforeCommand (s : State) (w : Word32) : State := { s with host := .writeReg 0x00 (w.setWidth 256) :: s.host }

end Sys2Proof.Machine
end

