-- ==== Sys2Proof/Machine/Step.lean ====
section
/-! DEFINITION. One step of the machine: the host's next access, a CMD write running its whole command
(spec/10_state.md R20, spec/20_memory.md R68, R75). -/

namespace Sys2Proof.Machine

/-- One step (10_state.md R20, 20_memory.md R68; log entries 1 and 2). -/
def step (s : State) : Host.Outcome State Fault Refusal := hostStep s

/-- The state whose next step is the CMD write of the word in the low `nbits` bits of `w` (log entry 1). -/
def State.withFetchWord (s : State) (nbits w : Nat) : State := s.beforeCommand (BitVec.ofNat 32 (w % 2 ^ nbits))

end Sys2Proof.Machine
end

