-- ==== Sys2Proof/Safety.lean ====
section
/-! DEFINITION. The terms that statements use: the invariant of the reachable states, which registers and flags a command
may change, which outcomes it may have, and second readings of the CRC and of a Manchester capture
(spec/10_state.md R22 to R35; spec/60_exceptions.md R262 to R265; spec/42_crc16.md R148; spec/43_burst_locator.md R174). -/

namespace Sys2Proof.Machine

/-! ### The invariant -/

/-- The CAP memory is in its canonical form, inside CAP_SIZE, and CAP_LEN is legal (20_memory.md R60, 10_state.md R35). -/
structure CaptureInv (s : State) : Prop where
  canonical : Memory.wf s.cap = true
  inside : ∀ a b, Memory.read s.cap a = some b → a < s.capSize.bytes
  capLen : s.capLen.toNat ≤ s.capSize.bytes

/-- The locator's registers (10_state.md R25), and every index below SCAN_POS has been read, so it holds a byte
(43_burst_locator.md R165, R173). -/
structure LocatorInv (s : State) : Prop where
  scanPos : s.scanPos.toNat ≤ s.capSize.bytes
  readBefore : ∀ a, a < s.scanPos.toNat → Memory.read s.cap a ≠ none
  idle : s.status.scanState = .idle →
    s.runStart = 0 ∧ s.runLength = 0 ∧ s.consecZeros = 0 ∧ s.consecOnes = 0
  inBurst : s.status.scanState = .inBurst →
    s.runStart.toNat + s.runLength.toNat = s.scanPos.toNat ∧ 1 ≤ s.runLength.toNat ∧
    (s.consecZeros = 0 ∧ s.consecOnes ≠ 0 ∨ s.consecZeros ≠ 0 ∧ s.consecOnes = 0) ∧
    s.consecZeros.toNat ≤ 2 ∧ s.consecOnes.toNat ≤ 2
  accepted : s.status.scanState = .accepted →
    1 ≤ s.runStart.toNat ∧ 511 ≤ s.runLength.toNat ∧ s.runLength.toNat ≤ 517 ∧ s.consecZeros = 3 ∧
    s.consecOnes = 0 ∧ s.burstOffset.toNat + 1 = s.runStart.toNat ∧
    s.runStart.toNat + s.runLength.toNat = s.scanPos.toNat

/-- The decoder's registers (10_state.md R26, 43_burst_locator.md R170). -/
structure DecoderInv (s : State) : Prop where
  count : s.mdecCount.toNat ≤ 256
  acc : s.mdecAcc.toNat < 2 ^ s.mdecCount.toNat

/-- The layout registers (10_state.md R28). -/
structure LayoutInv (s : State) : Prop where
  knownValid : s.status.layoutKnown = true → s.status.layoutValid = true
  known : s.status.layoutKnown = true →
    legalDivider s.divider.toNat = true ∧ s.afLen.toNat = s.divider.toNat - 47 ∧ s.pb1Len.toNat = 192 - s.divider.toNat
  unknown : s.status.layoutKnown = false → s.divider = 0 ∧ s.afLen = 0 ∧ s.pb1Len = 0

/-- What the validity flags promise of the current PACKET (10_state.md R23, R27, R31). -/
structure DerivedInv (s : State) : Prop where
  fieldsNeedPacket : s.status.fieldsValid = true → s.status.pktValid = true
  splitNeedsFields : s.status.fieldsSplit = true → s.status.fieldsValid = true
  crcNeedsPacket : s.status.crcValid = true → s.status.pktValid = true
  matchNeedsCrc : s.status.crcMatch = true → s.status.crcValid = true
  crcRegs : s.status.crcValid = true →
    s.crcExpected = computeCrc s.packet ∧ s.crcActual = storedCrc s.packet ∧
    (s.status.crcMatch = true ↔ computeCrc s.packet = storedCrc s.packet)
  fieldsWhole : s.status.fieldsValid = true → s.status.fieldsSplit = false →
    s.fields = decodePacket s.packet .unknown
  fieldsSplit : s.status.fieldsValid = true → s.status.fieldsSplit = true →
    ∃ d, legalDivider d = true ∧ s.fields = decodePacket s.packet (.known d)

/-- Which details ERR_INFO holds with each code (60_exceptions.md R264). -/
def OutcomeInv (e : Err) (info : Word32) : Prop :=
  match e with
  | .ok => info = 0
  | .captureTooShort => info.toNat < 512
  | .burstNotFound => info = 0 ∨ info = 1
  | .invalidDivider => info.toNat < 65536 ∧ legalDivider info.toNat = false
  | .fieldOutOfRange => info = 0x8000 ∨ (info ≠ 0 ∧ info.toNat < 1024)
  | .crcMismatch => info.extractLsb' 16 16 ≠ info.extractLsb' 0 16
  | .layoutUnknown => info = 0
  | .notReady => info = 1 ∨ info = 2 ∨ info = 3 ∨ info = 4 ∨ info = 8 ∨ info = 16
  | .illegalCommand => ∃ why, decode info = .error why

/-- The invariant of the reachable states. -/
structure Inv (s : State) : Prop where
  capture : CaptureInv s
  locator : LocatorInv s
  decoder : DecoderInv s
  layout : LayoutInv s
  derived : DerivedInv s
  outcome : OutcomeInv s.err s.errInfo

/-! ### What a command may change -/

/-- The registers of one SCAN_STATE walk (43_burst_locator.md R161 to R166). -/
def scanRegs : List RegName :=
  [.status, .scanPos, .runStart, .runLength, .consecZeros, .consecOnes, .burstOffset, .mdecCount, .mdecAcc]

/-- The registers of ApplyResolve (44_layout_resolver.md R204). -/
def layoutRegs : List RegName := [.status, .divider, .afLen, .pb1Len]

/-- The F_* registers (45_packet_codec.md R224). -/
def fieldRegs : List RegName :=
  [.fHeader, .fTagType, .fAppId, .fGroupId, .fAgencyId, .fSerial, .fAgencyFixed, .fPb1, .fCombined, .fHov, .fPb2, .fCrc]

/-- The registers of a verification (42_crc16.md R147). -/
def verifyRegs : List RegName := [.status, .crcExpected, .crcActual]

/-- Which registers a command's rule writes, ERR and ERR_INFO apart, which every command writes (40_control.md R110;
10_state.md R37 sends each to its command's rule). -/
def mayWrite : Instr → List RegName
  | .nop => []
  | .softReset => allRegs.filter fun r => decide ((regRow r).softReset = .cleared)
  | .loadShort => [.packet, .status]
  | .slice _ _ => [.sliceOut]
  | .pushClear => [.pushAcc]
  | .push _ => [.pushAcc]
  | .crcClear => [.crc]
  | .crcByte _ => [.crc]
  | .crcCompute => [.crcExpected]
  | .crcVerify => verifyRegs
  | .scanInit => scanRegs
  | .scanStep => scanRegs
  | .scanRun => scanRegs
  | .mdecStep => [.mdecCount, .mdecAcc, .packet, .status]
  | .mdecRun => [.mdecCount, .mdecAcc, .packet, .status]
  | .locate => .packet :: scanRegs
  | .resolve => layoutRegs
  | .resolvePkt => layoutRegs
  | .decode => fieldRegs ++ verifyRegs
  | .encode => [.packet, .status]
  | .dissect => layoutRegs ++ fieldRegs ++ verifyRegs
  | .craft => layoutRegs ++ [.packet]

/-- The flags of STATUS (10_state.md R23). -/
inductive Flag where
  | pktValid
  | layoutValid
  | layoutKnown
  | fieldsValid
  | fieldsSplit
  | crcValid
  | crcMatch
deriving DecidableEq, Repr

/-- A flag's value. -/
def Status.flag (st : Status) : Flag → Bool
  | .pktValid => st.pktValid
  | .layoutValid => st.layoutValid
  | .layoutKnown => st.layoutKnown
  | .fieldsValid => st.fieldsValid
  | .fieldsSplit => st.fieldsSplit
  | .crcValid => st.crcValid
  | .crcMatch => st.crcMatch

/-- The commands that call WritePacket (10_state.md R27). -/
def packetWriters : List Instr := [.loadShort, .mdecStep, .mdecRun, .locate, .encode, .craft]

/-- The commands that resolve a layout (44_layout_resolver.md R204). -/
def resolvers : List Instr := [.resolve, .resolvePkt, .dissect, .craft]

/-- The column "set by" of 10_state.md R23. -/
def flagSetters : Flag → List Instr
  | .pktValid => packetWriters
  | .layoutValid => resolvers
  | .layoutKnown => resolvers
  | .fieldsValid => [.decode, .dissect]
  | .fieldsSplit => [.decode, .dissect]
  | .crcValid => [.crcVerify, .decode, .dissect]
  | .crcMatch => [.crcVerify, .decode, .dissect]

/-- The column "cleared by" of 10_state.md R23. -/
def flagClearers : Flag → List Instr
  | .pktValid => [.scanInit, .locate, .softReset]
  | .layoutValid => .softReset :: resolvers
  | .layoutKnown => .softReset :: resolvers
  | .fieldsValid => .scanInit :: .softReset :: packetWriters
  | .fieldsSplit => .decode :: .dissect :: .scanInit :: .softReset :: packetWriters
  | .crcValid => .scanInit :: .softReset :: packetWriters
  | .crcMatch => .crcVerify :: .decode :: .dissect :: .scanInit :: .softReset :: packetWriters

/-- The commands whose rules change SCAN_STATE (10_state.md R24, 43_burst_locator.md R161 to R172, 40_control.md R112). -/
def scanStateWriters : List Instr := [.softReset, .scanInit, .scanStep, .scanRun, .locate]

/-! ### Which outcomes a command may have -/

/-- The column "outcomes in priority order" of 60_exceptions.md R265. -/
def possibleOutcomes : Instr → List Err
  | .nop => [.ok]
  | .softReset => [.ok]
  | .loadShort => [.ok]
  | .slice _ _ => [.notReady, .ok]
  | .pushClear => [.ok]
  | .push _ => [.fieldOutOfRange, .ok]
  | .crcClear => [.ok]
  | .crcByte _ => [.ok]
  | .crcCompute => [.notReady, .ok]
  | .crcVerify => [.notReady, .crcMismatch, .ok]
  | .scanInit => [.captureTooShort, .ok]
  | .scanStep => [.notReady, .burstNotFound, .ok]
  | .scanRun => [.notReady, .burstNotFound, .ok]
  | .mdecStep => [.notReady, .ok]
  | .mdecRun => [.notReady, .ok]
  | .locate => [.captureTooShort, .burstNotFound, .ok]
  | .resolve => [.invalidDivider, .ok]
  | .resolvePkt => [.notReady, .invalidDivider, .ok]
  | .decode => [.notReady, .crcMismatch, .ok]
  | .encode => [.notReady, .layoutUnknown, .fieldOutOfRange, .ok]
  | .dissect => [.notReady, .invalidDivider, .crcMismatch, .ok]
  | .craft => [.invalidDivider, .layoutUnknown, .fieldOutOfRange, .ok]

/-- Bit 0 of NotReady for a command that needs a packet (60_exceptions.md R264, R265). -/
def packetMissing (s : State) : Nat := if s.status.pktValid then 0 else 1

/-- Bit 2 of NotReady for a command that needs a scan under way (60_exceptions.md R264, R265). -/
def scanMissing (s : State) : Nat :=
  if s.status.scanState = .idle ∨ s.status.scanState = .inBurst then 0 else 4

/-- Bits 3 and 4 of NotReady for the decoder's commands, bit 4 only when bit 3 passes (60_exceptions.md R264, R265). -/
def decodingMissing (s : State) : Nat :=
  if s.status.scanState ≠ .accepted then 8 else if s.mdecCount = 256 then 16 else 0

/-- The column "precondition" of 60_exceptions.md R265 as the mask of what is unmet, 0 when the command may run. -/
def unmetMask : Instr → State → Nat
  | .nop, _ => 0
  | .softReset, _ => 0
  | .loadShort, _ => 0
  | .slice _ _, s => packetMissing s
  | .pushClear, _ => 0
  | .push _, _ => 0
  | .crcClear, _ => 0
  | .crcByte _, _ => 0
  | .crcCompute, s => packetMissing s
  | .crcVerify, s => packetMissing s
  | .scanInit, _ => 0
  | .scanStep, s => scanMissing s
  | .scanRun, s => scanMissing s
  | .mdecStep, s => decodingMissing s
  | .mdecRun, s => decodingMissing s
  | .locate, _ => 0
  | .resolve, _ => 0
  | .resolvePkt, s => packetMissing s
  | .decode, s => packetMissing s + if s.status.layoutValid then 0 else 2
  | .encode, s => if s.status.layoutValid then 0 else 2
  | .dissect, s => packetMissing s
  | .craft, _ => 0

/-! ### Commands in a row -/

/-- Commands issued one after another. -/
def execAll : List Instr → State → Host.Outcome State Fault Refusal
  | [], s => .next s
  | i :: rest, s =>
    match exec i s with
    | .next t => execAll rest t
    | .fault f => .fault f
    | .refused r => .refused r

/-! ### Bit ranges -/

/-- `v[hi:lo]` of the packet, over natural numbers (00_scope.md R10). -/
def bitRange (p : Word256) (hi lo : Nat) : Nat := p.toNat / 2 ^ lo % 2 ^ (hi - lo + 1)

/-- The packet write's flags: PKT_VALID <- 1, and every flag derived from the old packet <- 0 (10_state.md R27). -/
def packetWritten (st : Status) : Status :=
  { st with pktValid := true, fieldsValid := false, fieldsSplit := false, crcValid := false, crcMatch := false }

/-! ### The resolver's result, rule by rule -/

/-- What ApplyResolve(a) leaves, with its outcome, test by test (44_layout_resolver.md R200, R201, R202, R204). -/
def resolvedState (a : Nat) (s : State) : State :=
  let d := s.overrideDivider.toNat
  if a = 10 ∨ a = 31 then
    { s with status := { s.status with layoutValid := true, layoutKnown := true }, divider := 64, afLen := 17,
             pb1Len := 128, err := .ok, errInfo := 0 }
  else if s.overrideCtl = 0 then
    { s with status := { s.status with layoutValid := true, layoutKnown := false }, divider := 0, afLen := 0,
             pb1Len := 0, err := .ok, errInfo := 0 }
  else if 48 ≤ d ∧ d ≤ 184 ∧ d % 8 = 0 then
    { s with status := { s.status with layoutValid := true, layoutKnown := true }, divider := s.overrideDivider,
             afLen := BitVec.ofNat 8 (d - 47), pb1Len := BitVec.ofNat 8 (192 - d), err := .ok, errInfo := 0 }
  else
    { s with status := { s.status with layoutValid := false, layoutKnown := false }, divider := 0, afLen := 0,
             pb1Len := 0, err := .invalidDivider, errInfo := s.overrideDivider.setWidth 32 }

/-! ### The decoded record and the encoder's inputs -/

/-- The F_* registers hold the fixed fields of a packet and its combined field (45_packet_codec.md R220, R222). -/
def holdsFixedFields (f : FieldRegs) (p : Word256) : Prop :=
  f.header.toNat = bitRange p 255 253 ∧ f.tagType.toNat = bitRange p 252 250 ∧ f.appId.toNat = bitRange p 249 247 ∧
  f.groupId.toNat = bitRange p 246 240 ∧ f.agencyId.toNat = bitRange p 239 233 ∧ f.serial.toNat = bitRange p 232 209 ∧
  f.combined.toNat = bitRange p 208 64 ∧ f.hov.toNat = bitRange p 63 56 ∧ f.pb2.toNat = bitRange p 55 16 ∧
  f.crc.toNat = bitRange p 15 0

/-- The F_* registers hold the two variable fields of a packet for divider d (45_packet_codec.md R221, R222). -/
def holdsSplitFields (f : FieldRegs) (p : Word256) (d : Nat) : Prop :=
  f.agencyFixed.toNat = bitRange p 208 (256 - d) ∧ f.pb1.toNat = bitRange p (255 - d) 64

/-- Every input fits its field for divider d (45_packet_codec.md R220, R221, R223). -/
def inputsFit (i : InputRegs) (d : Nat) : Prop :=
  i.header.toNat < 2 ^ 3 ∧ i.tagType.toNat < 2 ^ 3 ∧ i.appId.toNat < 2 ^ 3 ∧ i.groupId.toNat < 2 ^ 7 ∧
  i.agencyId.toNat < 2 ^ 7 ∧ i.serial.toNat < 2 ^ 24 ∧ i.agencyFixed.toNat < 2 ^ (d - 47) ∧
  i.pb1.toNat < 2 ^ (192 - d) ∧ i.hov.toNat < 2 ^ 8 ∧ i.pb2.toNat < 2 ^ 40

/-- A FieldOutOfRange mask: one bit for each input that does not fit its field, in the order of the # column, and no
other bit (45_packet_codec.md R220, R223, 60_exceptions.md R264). -/
def isMisfitMask (bad : Word32) (i : InputRegs) (d : Nat) : Prop :=
  (bad.getLsbD 0 = true ↔ 2 ^ 3 ≤ i.header.toNat) ∧ (bad.getLsbD 1 = true ↔ 2 ^ 3 ≤ i.tagType.toNat) ∧
  (bad.getLsbD 2 = true ↔ 2 ^ 3 ≤ i.appId.toNat) ∧ (bad.getLsbD 3 = true ↔ 2 ^ 7 ≤ i.groupId.toNat) ∧
  (bad.getLsbD 4 = true ↔ 2 ^ 7 ≤ i.agencyId.toNat) ∧ (bad.getLsbD 5 = true ↔ 2 ^ 24 ≤ i.serial.toNat) ∧
  (bad.getLsbD 6 = true ↔ 2 ^ (d - 47) ≤ i.agencyFixed.toNat) ∧ (bad.getLsbD 7 = true ↔ 2 ^ (192 - d) ≤ i.pb1.toNat) ∧
  (bad.getLsbD 8 = true ↔ 2 ^ 8 ≤ i.hov.toNat) ∧ (bad.getLsbD 9 = true ↔ 2 ^ 40 ≤ i.pb2.toNat) ∧ bad.toNat < 2 ^ 10

/-- The ten decoded fields equal the ten inputs (45_packet_codec.md R228). -/
def fieldsEqualInputs (f : FieldRegs) (i : InputRegs) : Prop :=
  f.header.toNat = i.header.toNat ∧ f.tagType.toNat = i.tagType.toNat ∧ f.appId.toNat = i.appId.toNat ∧
  f.groupId.toNat = i.groupId.toNat ∧ f.agencyId.toNat = i.agencyId.toNat ∧ f.serial.toNat = i.serial.toNat ∧
  f.agencyFixed.toNat = i.agencyFixed.toNat ∧ f.pb1.toNat = i.pb1.toNat ∧ f.hov.toNat = i.hov.toNat ∧
  f.pb2.toNat = i.pb2.toNat

/-! ### The register file by index, written out from the table of 10_state.md R22 -/

/-- The columns `idx` and `name` of 10_state.md R22. No row has an index in 0x1A to 0x1F, 0x2C to 0x2F or 0x3A to 0x3F. -/
def indexColumn : List (Nat × RegName) :=
  [(0x00, .cmd), (0x01, .status), (0x02, .err), (0x03, .errInfo), (0x04, .capLen), (0x05, .scanPos),
   (0x06, .runStart), (0x07, .runLength), (0x08, .consecZeros), (0x09, .consecOnes), (0x0A, .burstOffset), (0x0B, .mdecCount),
   (0x0C, .mdecAcc), (0x0D, .packet), (0x0E, .sliceOut), (0x0F, .pushAcc), (0x10, .pushVal), (0x11, .crc),
   (0x12, .crcExpected), (0x13, .crcActual), (0x14, .agencyIn), (0x15, .overrideCtl), (0x16, .overrideDivider), (0x17, .divider),
   (0x18, .afLen), (0x19, .pb1Len), (0x20, .fHeader), (0x21, .fTagType), (0x22, .fAppId), (0x23, .fGroupId),
   (0x24, .fAgencyId), (0x25, .fSerial), (0x26, .fAgencyFixed), (0x27, .fPb1), (0x28, .fCombined), (0x29, .fHov),
   (0x2A, .fPb2), (0x2B, .fCrc), (0x30, .iHeader), (0x31, .iTagType), (0x32, .iAppId), (0x33, .iGroupId),
   (0x34, .iAgencyId), (0x35, .iSerial), (0x36, .iAgencyFixed), (0x37, .iPb1), (0x38, .iHov), (0x39, .iPb2)]

/-- The codes of ERR (60_exceptions.md R260). -/
def errNumber : Err → BitVec 8
  | .ok => 0
  | .captureTooShort => 1
  | .burstNotFound => 2
  | .invalidDivider => 3
  | .fieldOutOfRange => 4
  | .crcMismatch => 5
  | .layoutUnknown => 6
  | .notReady => 7
  | .illegalCommand => 8

/-- What a host read of an index returns: the register of that row, zero-extended, and 0 for CMD and an unassigned index
(10_state.md R21, R22, R34). -/
def readByIndex (s : State) (index : Nat) : Word256 :=
  match index with
  | 0x01 => s.status.word.setWidth 256
  | 0x02 => (errNumber s.err).setWidth 256
  | 0x03 => s.errInfo.setWidth 256
  | 0x04 => s.capLen.setWidth 256
  | 0x05 => s.scanPos.setWidth 256
  | 0x06 => s.runStart.setWidth 256
  | 0x07 => s.runLength.setWidth 256
  | 0x08 => s.consecZeros.setWidth 256
  | 0x09 => s.consecOnes.setWidth 256
  | 0x0A => s.burstOffset.setWidth 256
  | 0x0B => s.mdecCount.setWidth 256
  | 0x0C => s.mdecAcc
  | 0x0D => s.packet
  | 0x0E => s.sliceOut
  | 0x0F => s.pushAcc
  | 0x10 => s.pushVal
  | 0x11 => s.crc.setWidth 256
  | 0x12 => s.crcExpected.setWidth 256
  | 0x13 => s.crcActual.setWidth 256
  | 0x14 => s.agencyIn.setWidth 256
  | 0x15 => s.overrideCtl.setWidth 256
  | 0x16 => s.overrideDivider.setWidth 256
  | 0x17 => s.divider.setWidth 256
  | 0x18 => s.afLen.setWidth 256
  | 0x19 => s.pb1Len.setWidth 256
  | 0x20 => s.fields.header.setWidth 256
  | 0x21 => s.fields.tagType.setWidth 256
  | 0x22 => s.fields.appId.setWidth 256
  | 0x23 => s.fields.groupId.setWidth 256
  | 0x24 => s.fields.agencyId.setWidth 256
  | 0x25 => s.fields.serial.setWidth 256
  | 0x26 => s.fields.agencyFixed.setWidth 256
  | 0x27 => s.fields.pb1.setWidth 256
  | 0x28 => s.fields.combined.setWidth 256
  | 0x29 => s.fields.hov.setWidth 256
  | 0x2A => s.fields.pb2.setWidth 256
  | 0x2B => s.fields.crc.setWidth 256
  | 0x30 => s.inputs.header
  | 0x31 => s.inputs.tagType
  | 0x32 => s.inputs.appId
  | 0x33 => s.inputs.groupId
  | 0x34 => s.inputs.agencyId
  | 0x35 => s.inputs.serial
  | 0x36 => s.inputs.agencyFixed
  | 0x37 => s.inputs.pb1
  | 0x38 => s.inputs.hov
  | 0x39 => s.inputs.pb2
  | _ => 0

/-- What a host write of an index other than CMD's leaves: the low bits of the value in an RW register of that row,
CAP_LEN limited to CAP_SIZE, and nothing changed at any other index (10_state.md R21, R22, R34, R35). -/
def writeByIndex (s : State) (index : Nat) (v : Word256) : State :=
  match index with
  | 0x04 => { s with capLen := BitVec.ofNat 32 (min (v.toNat % 2 ^ 32) s.capSize.bytes) }
  | 0x10 => { s with pushVal := v }
  | 0x14 => { s with agencyIn := v.setWidth 8 }
  | 0x15 => { s with overrideCtl := v.setWidth 1 }
  | 0x16 => { s with overrideDivider := v.setWidth 16 }
  | 0x30 => { s with inputs := { s.inputs with header := v } }
  | 0x31 => { s with inputs := { s.inputs with tagType := v } }
  | 0x32 => { s with inputs := { s.inputs with appId := v } }
  | 0x33 => { s with inputs := { s.inputs with groupId := v } }
  | 0x34 => { s with inputs := { s.inputs with agencyId := v } }
  | 0x35 => { s with inputs := { s.inputs with serial := v } }
  | 0x36 => { s with inputs := { s.inputs with agencyFixed := v } }
  | 0x37 => { s with inputs := { s.inputs with pb1 := v } }
  | 0x38 => { s with inputs := { s.inputs with hov := v } }
  | 0x39 => { s with inputs := { s.inputs with pb2 := v } }
  | _ => s

/-! ### The CRC bit by bit -/

/-- `step(c, m)`: one message bit (42_crc16.md R148). -/
def crcBit (c : BitVec 16) (m : Bool) : BitVec 16 :=
  if Bool.xor (c.getLsbD 15) m then (c <<< 1) ^^^ 0x1021 else c <<< 1

/-- The bits of a word from bit `hi` down, `n` of them. -/
def bitsDown {w : Nat} (v : BitVec w) (hi n : Nat) : List Bool := (List.range n).map fun k => v.getLsbD (hi - k)

/-- A message fed bit by bit (42_crc16.md R148). -/
def crcSerial (c : BitVec 16) (message : List Bool) : BitVec 16 := message.foldl crcBit c

/-! ### Captures -/

/-- The CAP byte at an index exists and has this sample value (43_burst_locator.md R160). -/
def hasSample (s : State) (i : Nat) (one : Bool) : Prop :=
  i < s.capSize.bytes ∧ ∃ b, Memory.read s.cap i = some b ∧ sample b = one

/-- Every index of `[lo, hi)` holds a byte that the core can read. -/
def readable (s : State) (lo hi : Nat) : Prop := ∀ i, lo ≤ i → i < hi → ∃ one, hasSample s i one

/-- The sample value at an index, 0 where there is none. -/
def sampleAt (s : State) (i : Nat) : Bool :=
  match Memory.read s.cap i with
  | some b => sample b
  | none => false

/-- Sample `k` of the 512 that send packet `t`, bit 255 first, in the code (b, 1 − b), or in (1 − b, b) when `secondHalf`
holds (43_burst_locator.md R174). -/
def manchesterSample (secondHalf : Bool) (t : Word256) (k : Nat) : Bool :=
  Bool.xor (Bool.xor (t.getLsbD (255 - k / 2)) (k % 2 == 1)) secondHalf

/-- What the decoder makes of a packet sent in a code: T, (~T) >> 1, ~T or T >> 1 (43_burst_locator.md R174). -/
def receivedPacket (secondHalf : Bool) (t : Word256) : Word256 :=
  if secondHalf then (if t.msb then ~~~t else t >>> 1) else (if t.msb then (~~~t) >>> 1 else t)

end Sys2Proof.Machine
end

