-- ==== Sys2Proof/Certificates/Slice0/Obligations.lean ====
section
/-! DEFINITION. The statements for the provers. Each docstring names the rules of spec/ the statement formalises. -/

open Sys2Proof Sys2Proof.Machine

/-! ### Encoding -/

/-- Decode and encode agree: the word of every well-formed command decodes to it (30_encoding.md R90 to R93). -/
def Obligations.EncodeThenDecodeReturnsCommand : Prop :=
  ∀ i : Instr, i.wellFormed = true → decode (encode i) = .ok i

/-- Every legal word is the word of the well-formed command it decodes to (30_encoding.md R90 to R93). -/
def Obligations.DecodeThenEncodeReturnsWord : Prop :=
  ∀ (w : Word32) (i : Instr), decode w = .ok i → i.wellFormed = true ∧ encode i = w

/-- A word is legal exactly when one row of the opcode table matches it, and never does more than one
(30_encoding.md R92, R93). -/
def Obligations.LegalWordsAreTheTableRows : Prop :=
  ∀ w : Word32,
    ((∃ i, decode w = .ok i) ↔ (opcodeTable.filter fun r => r.matchesWord w).length = 1) ∧
    (opcodeTable.filter fun r => r.matchesWord w).length ≤ 1

/-- Sanity: the words that 95_test_vectors.md 2.1 lists, legal and illegal. -/
def Obligations.ListedWordsDecodeAsListed : Prop :=
  decode 0x00000000 = .ok .nop ∧ decode 0x0022C011 = .ok (.slice 192 17) ∧ decode 0x00000713 = .ok (.push 7) ∧
  decode 0x00003121 = .ok (.crcByte 0x31) ∧ decode 0x03FFFF11 = .ok (.slice 511 511) ∧
  decode 0x00000054 = .error .reservedOpcode ∧ decode 0x04000000 = .error .reservedBits ∧
  decode 0x00000712 = .error .unusedOperand ∧ decode 0x00020013 = .error .unusedOperand ∧
  decode 0x00010021 = .error .byteTooWide

/-! ### The command cycle -/

/-- A step runs the decoded command: when the host's next access is the write of v to CMD and its low 32 bits decode
to i, the step is exec of i, the access taken from the list and the word held by CMD (40_control.md R110). The list
of accesses and the word that CMD holds are the model's (log entries 1 and 3). -/
def Obligations.StepRunsTheDecodedCommand : Prop :=
  ∀ (s : State) (v : Word256) (rest : List HostAccess) (i : Instr),
    s.host = .writeReg 0x00 v :: rest → decode (v.setWidth 32) = .ok i →
    step s = exec i { s with host := rest, cmd := v.setWidth 32 }

/-- The word that `withFetchWord` places is the command that the next step runs (log entry 1: the model's own way of
letting the host write CMD; CMD holds the word by log entry 3). -/
def Obligations.PlacedWordRunsNext : Prop :=
  ∀ (s : State) (nbits w : Nat) (i : Instr), decodeTableWord nbits w = some i →
    step (s.withFetchWord nbits w) = exec i { s with cmd := BitVec.ofNat 32 (w % 2 ^ nbits) }

/-- An illegal word sets ERR = IllegalCommand and ERR_INFO = the word, and changes nothing else of the block
(40_control.md R110, 30_encoding.md R92, R94); the access is taken from the model's list (log entry 1) and CMD holds
the word (log entry 3). -/
def Obligations.IllegalWordOnlyReports : Prop :=
  ∀ (s : State) (v : Word256) (rest : List HostAccess) (why : DecodeError),
    s.host = .writeReg 0x00 v :: rest → decode (v.setWidth 32) = .error why →
    step s = .next { s with host := rest, cmd := v.setWidth 32, err := .illegalCommand, errInfo := v.setWidth 32 }

/-! ### Control, bit slices, pushes -/

/-- NOP clears ERR and ERR_INFO and changes nothing else (40_control.md R111). -/
def Obligations.NopOnlyAcknowledges : Prop :=
  ∀ s : State, exec .nop s = .next { s with err := .ok, errInfo := 0 }

/-- SOFT_RESET puts every register that R22 does not keep at 0, and leaves every kept register, CMD, CAP, WIRE_IN
and the rest alone (40_control.md R112). That CMD keeps its word is the model's reading of the "-" of R22 (log entry
3). -/
def Obligations.SoftResetClearsAndKeeps : Prop :=
  ∀ s : State, ∃ t, exec .softReset s = .next t ∧
    (∀ r, (regRow r).softReset = .cleared → regValue t r = 0) ∧
    (∀ r, (regRow r).softReset ≠ .cleared → regValue t r = regValue s r) ∧
    t.status.scanState = .notStarted ∧ t.wireIn = s.wireIn ∧ t.capSize = s.capSize ∧ t.host = s.host ∧
    t.readData = s.readData ∧ t.powerCycles = s.powerCycles ∧
    ∀ a, Memory.read t.cap a = Memory.read s.cap a

/-- LOAD_SHORT makes PACKET the packet whose wire form is WIRE_IN, with PKT_VALID set and the derived flags cleared,
and changes nothing else (41_bitslice_byteorder.md R122, 20_memory.md R65, R66). -/
def Obligations.LoadShortLoadsTheWireForm : Prop :=
  ∀ s : State, ∃ t, exec .loadShort s = .next t ∧
    (∀ (j : Nat) (h : j < 32), (bitRange t.packet (255 - 8 * j) (248 - 8 * j)) = s.wireIn[j].toNat) ∧
    t = { s with packet := t.packet, status := packetWritten s.status, err := .ok, errInfo := 0 }

/-- SLICE: the word `0x11 | shift << 8 | width << 17` for every shift and width; without a packet NotReady(1) and
nothing else; with one, `(PACKET >> A) mod 2^B` in SLICE_OUT and nothing else (41_bitslice_byteorder.md R123, R120). -/
def Obligations.SliceExtractsTheField : Prop :=
  ∀ (shift width : BitVec 9),
    decode (0x11 ||| (shift.setWidth 32 <<< 8) ||| (width.setWidth 32 <<< 17)) = .ok (.slice shift width) ∧
    ∀ s : State,
      (s.status.pktValid = false → exec (.slice shift width) s = .next { s with err := .notReady, errInfo := 1 }) ∧
      (s.status.pktValid = true →
        ∃ t, exec (.slice shift width) s = .next t ∧
          t.sliceOut.toNat = s.packet.toNat / 2 ^ shift.toNat % 2 ^ width.toNat ∧
          t = { s with sliceOut := t.sliceOut, err := .ok, errInfo := 0 })

/-- The laws of `slice`: width 0 gives 0, shift ≥ 256 gives 0, width ≥ 256 − shift gives P >> shift, and the result
is below 2^min(width, 256) (41_bitslice_byteorder.md R120). -/
def Obligations.SliceLaws : Prop :=
  ∀ (p : Word256) (shift width : Nat),
    slice p shift width = p.toNat / 2 ^ shift % 2 ^ width ∧ slice p shift 0 = 0 ∧
    (256 ≤ shift → slice p shift width = 0) ∧ (256 - shift ≤ width → slice p shift width = p.toNat / 2 ^ shift) ∧
    slice p shift width < 2 ^ min width 256

/-- PUSH_CLEAR and CRC_CLEAR: their words, and each puts its accumulator at 0 and changes nothing else but ERR and
ERR_INFO (41_bitslice_byteorder.md R124, 42_crc16.md R143). -/
def Obligations.ClearsZeroTheirAccumulator : Prop :=
  decode 0x00000012 = .ok .pushClear ∧ decode 0x00000020 = .ok .crcClear ∧
  ∀ s : State,
    exec .pushClear s = .next { s with pushAcc := 0, err := .ok, errInfo := 0 } ∧
    exec .crcClear s = .next { s with crc := 0x0000, err := .ok, errInfo := 0 }

/-- PUSH: the word `0x13 | width << 8` for every width; it shifts PUSH_ACC left by A and adds PUSH_VAL below it, mod
2^256, when PUSH_VAL fits A bits; otherwise it raises FieldOutOfRange(0x8000); nothing else changes
(41_bitslice_byteorder.md R121, R125). -/
def Obligations.PushAppendsOrRejects : Prop :=
  ∀ (width : BitVec 9) (s : State),
    decode (0x13 ||| (width.setWidth 32 <<< 8)) = .ok (.push width) ∧
    (s.pushVal.toNat < 2 ^ width.toNat →
      exec (.push width) s =
        .next { s with pushAcc := BitVec.ofNat 256 (s.pushAcc.toNat * 2 ^ width.toNat + s.pushVal.toNat),
                       err := .ok, errInfo := 0 }) ∧
    (2 ^ width.toNat ≤ s.pushVal.toNat →
      exec (.push width) s = .next { s with err := .fieldOutOfRange, errInfo := 0x8000 })

/-! ### CRC -/

/-- The CRC bit by bit: a byte is eight message bits, bit 7 first, and compute(P) is the bits 255 to 16 of P fed
from c = 0 (42_crc16.md R148). The byte procedure under it, R140, is the spec's general-knowledge reading of the
parameters (log entry 14). -/
def Obligations.CrcEqualsItsBitSerialForm : Prop :=
  (∀ (c : BitVec 16) (b : Byte), crcUpdate c b = crcSerial c (bitsDown b 7 8)) ∧
  (∀ p : Word256, computeCrc p = crcSerial 0 (bitsDown p 255 240))

/-- compute(P) depends on P[255:16] alone, and flipping any one of these bits changes it (42_crc16.md R149). The
byte procedure under it, R140, is the spec's general-knowledge reading of the parameters (log entry 14). -/
def Obligations.CrcSeesEverySingleBitFlip : Prop :=
  (∀ p q : Word256, bitRange p 255 16 = bitRange q 255 16 → computeCrc p = computeCrc q) ∧
  (∀ (p : Word256) (i : Nat), 16 ≤ i → i ≤ 255 → computeCrc (p ^^^ BitVec.twoPow 256 i) ≠ computeCrc p)

/-- CRC_BYTE feeds A[7:0], bit 7 first, into CRC and changes nothing else (42_crc16.md R144, R148). The byte
procedure under it, R140, is the spec's general-knowledge reading of the parameters (log entry 14). For A[8] = 1,
which no legal word gives, the eight low bits are the model's reading (log entry 18). -/
def Obligations.CrcByteFeedsEightBits : Prop :=
  ∀ (a : BitVec 9) (s : State),
    exec (.crcByte a) s = .next { s with crc := crcSerial s.crc (bitsDown a 7 8), err := .ok, errInfo := 0 }

/-- CRC_CLEAR and then one CRC_BYTE for each byte leaves CRC = crc16_xmodem of the bytes, whatever CRC held
(42_crc16.md R141, R144). R141 over that procedure (log entry 14). -/
def Obligations.CrcBytesLeaveTheXmodemCrc : Prop :=
  ∀ (bytes : List Byte) (s : State),
    execAll (.crcClear :: bytes.map fun b => .crcByte (b.setWidth 9)) s =
      .next { s with crc := crc16 bytes, err := .ok, errInfo := 0 }

/-- CRC_COMPUTE writes the CRC of PACKET[255:16] to CRC_EXPECTED and nothing else (42_crc16.md R142, R146, R148).
The byte procedure under it, R140, is the spec's general-knowledge reading of the parameters (log entry 14). -/
def Obligations.CrcComputeWritesExpected : Prop :=
  ∀ s : State, s.status.pktValid = true →
    exec .crcCompute s =
      .next { s with crcExpected := crcSerial 0 (bitsDown s.packet 255 240), err := .ok, errInfo := 0 }

/-- CRC_VERIFY writes expected, actual, CRC_VALID and CRC_MATCH, and reports a mismatch as `(expected << 16) |
actual` with all of that written (42_crc16.md R145, R147, 60_exceptions.md R263). The byte procedure under it, R140,
is the spec's general-knowledge reading of the parameters (log entry 14). -/
def Obligations.CrcVerifyRecordsAndReports : Prop :=
  ∀ s : State, s.status.pktValid = true →
    ∃ t, exec .crcVerify s = .next t ∧
      t.crcExpected = crcSerial 0 (bitsDown s.packet 255 240) ∧ t.crcActual.toNat = bitRange s.packet 15 0 ∧
      (t.crcExpected = t.crcActual → t.err = .ok ∧ t.errInfo = 0) ∧
      (t.crcExpected ≠ t.crcActual →
        t.err = .crcMismatch ∧ t.errInfo.toNat = t.crcExpected.toNat * 2 ^ 16 + t.crcActual.toNat) ∧
      t = { s with crcExpected := t.crcExpected, crcActual := t.crcActual, err := t.err, errInfo := t.errInfo,
                   status := { s.status with crcValid := true, crcMatch := t.crcExpected == t.crcActual } }

/-! ### The burst locator -/

/-- SCAN_INIT: its word; it clears the scan, the decoder's counters and the packet's flags; then it is Idle, or
NotStarted with CaptureTooShort(CAP_LEN) when CAP_LEN < 512 (43_burst_locator.md R166). -/
def Obligations.ScanInitStartsOrRejects : Prop :=
  decode 0x00000030 = .ok .scanInit ∧
  ∀ s : State,
    exec .scanInit s = .next
      { s with
        status := { s.status with pktValid := false, fieldsValid := false, fieldsSplit := false, crcValid := false,
                                  crcMatch := false,
                                  scanState := if s.capLen.toNat < 512 then .notStarted else .idle }
        scanPos := 0, runStart := 0, runLength := 0, consecZeros := 0, consecOnes := 0, burstOffset := 0,
        mdecCount := 0, mdecAcc := 0
        err := if s.capLen.toNat < 512 then .captureTooShort else .ok
        errInfo := if s.capLen.toNat < 512 then s.capLen else 0 }

/-- SCAN_STEP in Idle: a 1 opens a candidate at its index, a 0 is ignored; either way SCAN_POS moves on
(43_burst_locator.md R161, R165, R167). -/
def Obligations.ScanStepInIdle : Prop :=
  ∀ (s : State) (one : Bool), s.status.scanState = .idle → s.scanPos.toNat < s.capLen.toNat →
    hasSample s s.scanPos.toNat one →
    exec .scanStep s = .next
      (if one then
        { s with status := { s.status with scanState := .inBurst }, scanPos := s.scanPos + 1, runStart := s.scanPos,
                 runLength := 1, consecZeros := 0, consecOnes := 1, err := .ok, errInfo := 0 }
       else { s with scanPos := s.scanPos + 1, err := .ok, errInfo := 0 })

/-- SCAN_STEP in InBurst on a 1: it is counted, and the third in a row closes the candidate with every counter 0
(43_burst_locator.md R162, R165, R167). The counter is in the range R25 gives it. -/
def Obligations.ScanStepInBurstOnOne : Prop :=
  ∀ s : State, s.status.scanState = .inBurst → s.scanPos.toNat < s.capLen.toNat →
    s.consecOnes.toNat ≤ 2 → s.runLength.toNat ≤ s.scanPos.toNat → hasSample s s.scanPos.toNat true →
    exec .scanStep s = .next
      (if s.consecOnes = 2 then
        { s with status := { s.status with scanState := .idle }, scanPos := s.scanPos + 1, runStart := 0,
                 runLength := 0, consecZeros := 0, consecOnes := 0, err := .ok, errInfo := 0 }
       else
        { s with scanPos := s.scanPos + 1, runLength := s.runLength + 1, consecOnes := s.consecOnes + 1,
                 consecZeros := 0, err := .ok, errInfo := 0 })

/-- SCAN_STEP in InBurst on a 0: it is counted, and the third in a row accepts a run of 511 to 517 samples that does
not start at 0, raises BurstNotFound(1) for one that does, and discards any other run (43_burst_locator.md R163,
R164, R165, R167). The counters are in the range R25 gives them. -/
def Obligations.ScanStepInBurstOnZero : Prop :=
  ∀ s : State, s.status.scanState = .inBurst → s.scanPos.toNat < s.capLen.toNat →
    s.consecZeros.toNat ≤ 2 → s.runLength.toNat ≤ s.scanPos.toNat → hasSample s s.scanPos.toNat false →
    exec .scanStep s = .next
      (let counted := { s with scanPos := s.scanPos + 1, runLength := s.runLength + 1, consecOnes := 0,
                               consecZeros := s.consecZeros + 1, err := .ok, errInfo := 0 }
       if s.consecZeros ≠ 2 then counted
       else if 511 ≤ (s.runLength + 1).toNat ∧ (s.runLength + 1).toNat ≤ 517 then
         if s.runStart = 0 then
           { counted with status := { s.status with scanState := .notFound }, err := .burstNotFound, errInfo := 1 }
         else
           { counted with status := { s.status with scanState := .accepted }, burstOffset := s.runStart - 1,
                          mdecCount := 0, mdecAcc := 0 }
       else
         { counted with status := { s.status with scanState := .idle }, runStart := 0, runLength := 0,
                        consecZeros := 0, consecOnes := 0 })

/-- SCAN_STEP and SCAN_RUN at the end of the capture raise BurstNotFound(0), SCAN_STATE becomes NotFound and every
other register keeps its value (43_burst_locator.md R165, R167, R168). -/
def Obligations.ScanEndsAtTheCaptureEnd : Prop :=
  ∀ s : State, s.status.scanState = .idle ∨ s.status.scanState = .inBurst → s.capLen.toNat ≤ s.scanPos.toNat →
    exec .scanStep s = .next { s with status := { s.status with scanState := .notFound }, err := .burstNotFound,
                                      errInfo := 0 } ∧
    exec .scanRun s = exec .scanStep s

/-- SCAN_RUN is SCAN_STEP repeated, at most max(CAP_LEN − SCAN_POS, 0) + 1 times, with the same state, outcome and
fault, and it ends outside Idle and InBurst (43_burst_locator.md R168, 60_exceptions.md R272). -/
def Obligations.ScanRunIsRepeatedScanStep : Prop :=
  ∀ s : State, s.status.scanState = .idle ∨ s.status.scanState = .inBurst →
    ∃ n, 1 ≤ n ∧ n ≤ s.capLen.toNat - s.scanPos.toNat + 1 ∧
      exec .scanRun s = execAll (List.replicate n .scanStep) s ∧
      ∀ t, exec .scanRun s = .next t → t.status.scanState = .accepted ∨ t.status.scanState = .notFound

/-- SCAN_RUN over a capture whose bytes are all written ends in Accepted with OK, or in NotFound with BurstNotFound,
SCAN_POS being at most CAP_LEN unless it was above it before, and keeps every register that no scan rule writes
(43_burst_locator.md R168). -/
def Obligations.ScanRunAcceptsOrFindsNothing : Prop :=
  ∀ s : State, s.status.scanState = .idle ∨ s.status.scanState = .inBurst →
    readable s s.scanPos.toNat s.capLen.toNat →
    ∃ t, exec .scanRun s = .next t ∧
      (t.status.scanState = .accepted ∧ t.err = .ok ∧ t.errInfo = 0 ∧ 511 ≤ t.runLength.toNat ∧
          t.runLength.toNat ≤ 517 ∧ t.consecZeros = 3 ∧ t.burstOffset = t.runStart - 1 ∧ t.mdecCount = 0 ∧
          t.mdecAcc = 0
        ∨ t.status.scanState = .notFound ∧ t.err = .burstNotFound ∧ (t.errInfo = 0 ∨ t.errInfo = 1)) ∧
      s.scanPos.toNat ≤ t.scanPos.toNat ∧ t.scanPos.toNat ≤ max s.capLen.toNat s.scanPos.toNat ∧
      t = { s with status := { s.status with scanState := t.status.scanState }, scanPos := t.scanPos,
                   runStart := t.runStart, runLength := t.runLength, consecZeros := t.consecZeros,
                   consecOnes := t.consecOnes, burstOffset := t.burstOffset, mdecCount := t.mdecCount,
                   mdecAcc := t.mdecAcc, err := t.err, errInfo := t.errInfo }

/-- A packet sent as 512 samples from index p ≥ 1 in either Manchester code, found Idle, preceded by a 0 and
followed by three 0 samples: SCAN_RUN accepts it with 513 ≤ RUN_LENGTH ≤ 515, and MDEC_RUN then gives T, (~T) >> 1,
~T or T >> 1 by the code and T[255] (43_burst_locator.md R174). -/
def Obligations.ManchesterBurstIsFoundAndDecoded : Prop :=
  ∀ (s : State) (packet : Word256) (secondHalf : Bool) (p : Nat),
    1 ≤ p → s.status.scanState = .idle → s.scanPos.toNat = p →
    p + 515 ≤ s.capLen.toNat → hasSample s (p - 1) false →
    (∀ k, k < 512 → hasSample s (p + k) (manchesterSample secondHalf packet k)) →
    (∀ k, 512 ≤ k → k < 515 → hasSample s (p + k) false) →
    ∃ t u, exec .scanRun s = .next t ∧ exec .mdecRun t = .next u ∧
      t.status.scanState = .accepted ∧ t.err = .ok ∧ 513 ≤ t.runLength.toNat ∧ t.runLength.toNat ≤ 515 ∧
      u.status.pktValid = true ∧ u.mdecCount = 256 ∧ u.err = .ok ∧
      u.packet = receivedPacket secondHalf packet

/-! ### The Manchester bit decoder -/

/-- MDEC_STEP shifts the used sample at BURST_OFFSET + 2·MDEC_COUNT into MDEC_ACC; the 256th bit writes PACKET
(43_burst_locator.md R169, R170, 10_state.md R27). -/
def Obligations.MdecStepTakesOneBit : Prop :=
  ∀ (s : State) (one : Bool), s.status.scanState = .accepted → s.mdecCount.toNat < 256 →
    hasSample s (s.burstOffset.toNat + 2 * s.mdecCount.toNat) one →
    exec .mdecStep s = .next
      (let acc := BitVec.ofNat 256 (s.mdecAcc.toNat * 2 + one.toNat)
       let shifted := { s with mdecAcc := acc, mdecCount := s.mdecCount + 1, err := .ok, errInfo := 0 }
       if s.mdecCount = 255 then { shifted with packet := acc, status := packetWritten s.status } else shifted)

/-- MDEC_RUN is MDEC_STEP repeated 256 − MDEC_COUNT times, with the same state and the same fault
(43_burst_locator.md R171, 60_exceptions.md R272). -/
def Obligations.MdecRunIsRepeatedMdecStep : Prop :=
  ∀ s : State, s.status.scanState = .accepted → s.mdecCount.toNat < 256 →
    exec .mdecRun s = execAll (List.replicate (256 - s.mdecCount.toNat) .mdecStep) s

/-- After a whole MDEC_RUN, PACKET[255 − k] is the sample at BURST_OFFSET + 2k for every k below 256
(43_burst_locator.md R169, R171). -/
def Obligations.MdecRunDecodesEveryOtherSample : Prop :=
  ∀ s : State, s.status.scanState = .accepted → s.mdecCount = 0 →
    (∀ k, k < 256 → ∃ one, hasSample s (s.burstOffset.toNat + 2 * k) one) →
    ∃ t, exec .mdecRun s = .next t ∧
      (∀ k, k < 256 → t.packet.getLsbD (255 - k) = sampleAt s (s.burstOffset.toNat + 2 * k)) ∧
      t = { s with mdecCount := 256, mdecAcc := t.packet, packet := t.packet, status := packetWritten s.status,
                   err := .ok, errInfo := 0 }

/-- In every state of the invariant an accepted burst decodes to its end: MDEC_RUN completes, with no error and no
fault (43_burst_locator.md R171, R173). -/
def Obligations.MdecRunAlwaysCompletes : Prop :=
  ∀ s : State, Inv s → s.status.scanState = .accepted → s.mdecCount ≠ 256 →
    ∃ t, exec .mdecRun s = .next t ∧ t.err = .ok ∧ t.mdecCount = 256 ∧ t.packet = t.mdecAcc ∧
      t.status = packetWritten s.status

/-! ### LOCATE -/

/-- LOCATE is SCAN_INIT, SCAN_RUN and MDEC_RUN in order, stopping with the outcome of the first that raises
(43_burst_locator.md R172, 40_control.md R113). -/
def Obligations.LocateIsItsThreeParts : Prop :=
  ∀ s a : State, exec .scanInit s = .next a →
    (a.err ≠ .ok → exec .locate s = .next a) ∧
    (a.err = .ok →
      (∀ f, exec .scanRun a = .fault f → exec .locate s = .fault f) ∧
      ∀ b, exec .scanRun a = .next b →
        (b.err ≠ .ok → exec .locate s = .next b) ∧
        (b.err = .ok → exec .locate s = exec .mdecRun b))

/-- LOCATE over a capture of at least 512 written bytes, from any state: a packet with Accepted, MDEC_COUNT = 256
and OK, or BurstNotFound with NotFound and no packet (43_burst_locator.md R172, R173). -/
def Obligations.LocateFindsAPacketOrNone : Prop :=
  ∀ s : State, 512 ≤ s.capLen.toNat → readable s 0 s.capLen.toNat →
    ∃ t, exec .locate s = .next t ∧
      (t.err = .ok ∧ t.errInfo = 0 ∧ t.status.scanState = .accepted ∧ t.status.pktValid = true ∧ t.mdecCount = 256 ∧
          (∀ k, k < 256 → t.packet.getLsbD (255 - k) = sampleAt s (t.burstOffset.toNat + 2 * k))
        ∨ t.err = .burstNotFound ∧ t.status.scanState = .notFound ∧ t.status.pktValid = false ∧
          t.packet = s.packet) ∧
      t.status.fieldsValid = false ∧ t.status.crcValid = false

/-- LOCATE, from any state, over a capture of p ≥ 1 zero samples, a packet's 512 samples in either Manchester code
and three zero samples: it finds the burst and leaves the packet that R174 derives (43_burst_locator.md R172, R174). -/
def Obligations.LocateFindsTheManchesterBurst : Prop :=
  ∀ (s : State) (packet : Word256) (secondHalf : Bool) (p : Nat),
    1 ≤ p → p + 515 ≤ s.capLen.toNat → (∀ i, i < p → hasSample s i false) →
    (∀ k, k < 512 → hasSample s (p + k) (manchesterSample secondHalf packet k)) →
    (∀ k, 512 ≤ k → k < 515 → hasSample s (p + k) false) →
    ∃ t, exec .locate s = .next t ∧ t.err = .ok ∧ t.status.scanState = .accepted ∧ t.status.pktValid = true ∧
      t.mdecCount = 256 ∧ 513 ≤ t.runLength.toNat ∧ t.runLength.toNat ≤ 515 ∧
      t.packet = receivedPacket secondHalf packet

/-! ### The layout resolver -/

/-- The legal dividers are 48, 56, ..., 184 (44_layout_resolver.md R201), and the two variable widths of each are d
− 47, from 1 to 137, and 192 − d = 145 − (d − 47), from 144 to 8, which sum to 145 (44_layout_resolver.md R203). -/
def Obligations.VariableWidthsSumTo145 : Prop :=
  (∀ d : Nat, legalDivider d = true ↔ 48 ≤ d ∧ d ≤ 184 ∧ d % 8 = 0) ∧
  ∀ d : Nat, legalDivider d = true →
    agencyFixedLen d = d - 47 ∧ pb1LenOf d = 192 - d ∧ pb1LenOf d = 145 - (d - 47) ∧
    1 ≤ agencyFixedLen d ∧ agencyFixedLen d ≤ 137 ∧ 8 ≤ pb1LenOf d ∧ pb1LenOf d ≤ 144 ∧
    agencyFixedLen d + pb1LenOf d = 145

/-- RESOLVE resolves AGENCY_IN; RESOLVE_PKT, without a packet NotReady(1), resolves PACKET[239:233]: a known agency
gives divider 64 whatever the override, a legal override its own divider, no override the unknown layout, and an
illegal one invalidates the layout and raises InvalidDivider with its value; nothing else changes
(44_layout_resolver.md R204, R205, R206). -/
def Obligations.ResolveFollowsItsTests : Prop :=
  decode 0x00000040 = .ok .resolve ∧ decode 0x00000041 = .ok .resolvePkt ∧
  ∀ s : State,
    exec .resolve s = .next (resolvedState s.agencyIn.toNat s) ∧
    (s.status.pktValid = false → exec .resolvePkt s = .next { s with err := .notReady, errInfo := 1 }) ∧
    (s.status.pktValid = true → exec .resolvePkt s = .next (resolvedState (bitRange s.packet 239 233) s))

/-! ### The packet codec -/

/-- DECODE writes every fixed field and the combined field of PACKET, the two variable fields of the known divider
(0 when the layout is unknown), their flags and the verification, a mismatch reported, and nothing else
(45_packet_codec.md R220, R221, R222, R224). The divider is a legal one, as 10_state.md R28 has it. The byte
procedure under it, R140, is the spec's general-knowledge reading of the parameters (log entry 14). -/
def Obligations.DecodeWritesTheRecord : Prop :=
  ∀ s : State, s.status.pktValid = true → s.status.layoutValid = true →
    (s.status.layoutKnown = true → legalDivider s.divider.toNat = true) →
    ∃ t, exec .decode s = .next t ∧
      holdsFixedFields t.fields s.packet ∧
      (s.status.layoutKnown = true → holdsSplitFields t.fields s.packet s.divider.toNat ∧
        t.fields.combined.toNat = t.fields.agencyFixed.toNat * 2 ^ (192 - s.divider.toNat) + t.fields.pb1.toNat) ∧
      (s.status.layoutKnown = false → t.fields.agencyFixed = 0 ∧ t.fields.pb1 = 0) ∧
      t.crcExpected = crcSerial 0 (bitsDown s.packet 255 240) ∧ t.crcActual = t.fields.crc ∧
      (t.crcExpected = t.crcActual → t.err = .ok ∧ t.errInfo = 0) ∧
      (t.crcExpected ≠ t.crcActual →
        t.err = .crcMismatch ∧ t.errInfo.toNat = t.crcExpected.toNat * 2 ^ 16 + t.crcActual.toNat) ∧
      t = { s with fields := t.fields, crcExpected := t.crcExpected, crcActual := t.crcActual, err := t.err,
                   errInfo := t.errInfo,
                   status := { s.status with fieldsValid := true, fieldsSplit := s.status.layoutKnown,
                                             crcValid := true, crcMatch := t.crcExpected == t.crcActual } }

/-- Round trip: with a known legal layout and inputs that fit, ENCODE writes a packet, and DECODE of it gives back
all ten inputs, crc = compute(P) and a matching verification (45_packet_codec.md R225, R228). -/
def Obligations.EncodeThenDecodeReturnsInputs : Prop :=
  ∀ s : State, s.status.layoutValid = true → s.status.layoutKnown = true → legalDivider s.divider.toNat = true →
    inputsFit s.inputs s.divider.toNat →
    ∃ t u, exec .encode s = .next t ∧
      t = { s with packet := t.packet, status := packetWritten s.status, err := .ok, errInfo := 0 } ∧
      exec .decode t = .next u ∧ fieldsEqualInputs u.fields s.inputs ∧ u.fields.crc = computeCrc t.packet ∧
      u.status.crcMatch = true ∧ u.err = .ok

/-- ENCODE with an unknown layout raises LayoutUnknown(0); with a known one and a value that does not fit it raises
FieldOutOfRange with one bit for each offending input, in the order of R220's # column; neither changes anything
else (45_packet_codec.md R223, R225, 60_exceptions.md R264). -/
def Obligations.EncodeRejectsWithoutWriting : Prop :=
  ∀ s : State, s.status.layoutValid = true →
    (s.status.layoutKnown = false → exec .encode s = .next { s with err := .layoutUnknown, errInfo := 0 }) ∧
    (s.status.layoutKnown = true → legalDivider s.divider.toNat = true → ¬ inputsFit s.inputs s.divider.toNat →
      ∃ bad : Word32, exec .encode s = .next { s with err := .fieldOutOfRange, errInfo := bad } ∧
        (bad.getLsbD 0 = true ↔ 2 ^ 3 ≤ s.inputs.header.toNat) ∧
        (bad.getLsbD 1 = true ↔ 2 ^ 3 ≤ s.inputs.tagType.toNat) ∧
        (bad.getLsbD 2 = true ↔ 2 ^ 3 ≤ s.inputs.appId.toNat) ∧
        (bad.getLsbD 3 = true ↔ 2 ^ 7 ≤ s.inputs.groupId.toNat) ∧
        (bad.getLsbD 4 = true ↔ 2 ^ 7 ≤ s.inputs.agencyId.toNat) ∧
        (bad.getLsbD 5 = true ↔ 2 ^ 24 ≤ s.inputs.serial.toNat) ∧
        (bad.getLsbD 6 = true ↔ 2 ^ (s.divider.toNat - 47) ≤ s.inputs.agencyFixed.toNat) ∧
        (bad.getLsbD 7 = true ↔ 2 ^ (192 - s.divider.toNat) ≤ s.inputs.pb1.toNat) ∧
        (bad.getLsbD 8 = true ↔ 2 ^ 8 ≤ s.inputs.hov.toNat) ∧
        (bad.getLsbD 9 = true ↔ 2 ^ 40 ≤ s.inputs.pb2.toNat) ∧
        bad.toNat < 2 ^ 10)

/-- DISSECT is RESOLVE_PKT and then DECODE, the latter only when the former did not raise (45_packet_codec.md R226,
40_control.md R113). -/
def Obligations.DissectIsResolveThenDecode : Prop :=
  ∀ s : State, s.status.pktValid = true →
    ∃ a, exec .resolvePkt s = .next a ∧
      (a.err = .ok → exec .dissect s = exec .decode a) ∧ (a.err ≠ .ok → exec .dissect s = .next a)

/-- DISSECT of a packet with a known agency, with no override, or with a legal one completes: the layout is the one
that the packet's own agency resolves to, whole (LAYOUT_VALID, LAYOUT_KNOWN, DIVIDER, AF_LEN, PB1_LEN), the record
is that of the packet under that layout, the verification is recorded and a mismatch reported, and nothing else
changes (45_packet_codec.md R226, R224, 44_layout_resolver.md R204). The byte procedure under the CRC, R140, is the
spec's general-knowledge reading of the parameters (log entry 14). -/
def Obligations.DissectWritesTheRecord : Prop :=
  ∀ s r : State, r = resolvedState (bitRange s.packet 239 233) s → s.status.pktValid = true →
    (bitRange s.packet 239 233 = 10 ∨ bitRange s.packet 239 233 = 31 ∨ s.overrideCtl = 0 ∨
      48 ≤ s.overrideDivider.toNat ∧ s.overrideDivider.toNat ≤ 184 ∧ s.overrideDivider.toNat % 8 = 0) →
    ∃ t, exec .dissect s = .next t ∧
      t.status.layoutValid = true ∧ t.status.layoutKnown = r.status.layoutKnown ∧ t.divider = r.divider ∧
      t.afLen = r.afLen ∧ t.pb1Len = r.pb1Len ∧
      t.status.fieldsValid = true ∧ t.status.fieldsSplit = r.status.layoutKnown ∧
      holdsFixedFields t.fields s.packet ∧
      (r.status.layoutKnown = true → holdsSplitFields t.fields s.packet r.divider.toNat) ∧
      (r.status.layoutKnown = false → t.fields.agencyFixed = 0 ∧ t.fields.pb1 = 0) ∧
      t.status.crcValid = true ∧ t.crcExpected = crcSerial 0 (bitsDown s.packet 255 240) ∧
      t.crcActual = s.packet.extractLsb' 0 16 ∧ (t.status.crcMatch = true ↔ t.crcExpected = t.crcActual) ∧
      (t.crcExpected = t.crcActual → t.err = .ok ∧ t.errInfo = 0) ∧
      (t.crcExpected ≠ t.crcActual →
        t.err = .crcMismatch ∧ t.errInfo.toNat = t.crcExpected.toNat * 2 ^ 16 + t.crcActual.toNat) ∧
      t = { s with divider := t.divider, afLen := t.afLen, pb1Len := t.pb1Len, fields := t.fields,
                   crcExpected := t.crcExpected, crcActual := t.crcActual, err := t.err, errInfo := t.errInfo,
                   status := { s.status with layoutValid := t.status.layoutValid, layoutKnown := t.status.layoutKnown,
                                             fieldsValid := t.status.fieldsValid, fieldsSplit := t.status.fieldsSplit,
                                             crcValid := t.status.crcValid, crcMatch := t.status.crcMatch } }

/-- CRAFT resolves the whole value of I_AGENCY_ID and encodes with that layout: with a known layout and inputs that
fit it writes a packet that decodes to them under the layout it leaves; with inputs that do not fit it raises
FieldOutOfRange with ENCODE's mask, one bit for each offending input; with an unknown layout it raises
LayoutUnknown; with an illegal override it raises InvalidDivider; and in all of these the layout part stays
(45_packet_codec.md R225, R227, R228, 60_exceptions.md R264, 40_control.md R113). -/
def Obligations.CraftResolvesThenEncodes : Prop :=
  ∀ s r : State, r = resolvedState s.inputs.agencyId.toNat s →
    (r.status.layoutValid = false → exec .craft s = .next r) ∧
    (r.status.layoutValid = true → r.status.layoutKnown = false →
      exec .craft s = .next { r with err := .layoutUnknown, errInfo := 0 }) ∧
    (r.status.layoutKnown = true → inputsFit s.inputs r.divider.toNat →
      ∃ t u, exec .craft s = .next t ∧
        t = { r with packet := t.packet, status := packetWritten r.status, err := .ok, errInfo := 0 } ∧
        exec .decode t = .next u ∧ fieldsEqualInputs u.fields s.inputs ∧ u.status.crcMatch = true) ∧
    (r.status.layoutKnown = true → ¬ inputsFit s.inputs r.divider.toNat →
      ∃ bad, exec .craft s = .next { r with err := .fieldOutOfRange, errInfo := bad } ∧
        exec .encode r = .next { r with err := .fieldOutOfRange, errInfo := bad } ∧
        isMisfitMask bad s.inputs r.divider.toNat)

/-- The short-packet path with an unknown agency and no override: LOAD_SHORT, RESOLVE, DECODE leave the combined
field and the nine raw fields of from_bytes(WIRE_IN), with FIELDS_SPLIT = 0 (45_packet_codec.md R229). -/
def Obligations.ShortPacketPathKeepsTheMiddleWhole : Prop :=
  ∀ s : State, s.agencyIn.toNat ≠ 10 → s.agencyIn.toNat ≠ 31 → s.overrideCtl = 0 →
    ∃ t, execAll [.loadShort, .resolve, .decode] s = .next t ∧
      t.packet = fromBytes s.wireIn.toList ∧ t.status.fieldsValid = true ∧ t.status.fieldsSplit = false ∧
      holdsFixedFields t.fields (fromBytes s.wireIn.toList) ∧ t.fields.agencyFixed = 0 ∧ t.fields.pb1 = 0

/-! ### Every command -/

/-- Frame: a command writes only the registers its rule names, ERR and ERR_INFO, and never CAP, WIRE_IN or the
host's side (40_control.md R110, 20_memory.md R61, 10_state.md R37). That no command writes CMD is the model's (log
entry 3). -/
def Obligations.CommandsWriteOnlyTheirRegisters : Prop :=
  ∀ (i : Instr) (s t : State), exec i s = .next t →
    (∀ r, r ∉ mayWrite i → r ≠ .err → r ≠ .errInfo → regValue t r = regValue s r) ∧
    (∀ a, Memory.read t.cap a = Memory.read s.cap a) ∧ t.cap = s.cap ∧ t.wireIn = s.wireIn ∧
    t.capSize = s.capSize ∧ t.host = s.host ∧ t.readData = s.readData ∧ t.powerCycles = s.powerCycles

/-- A STATUS flag rises only by a command that R23 lists under "set by" and falls only by one listed under "cleared
by", and SCAN_STATE changes only by SOFT_RESET and the scan commands (10_state.md R23, R24). (R23 gives both
columns; the statement is their "only" direction.) -/
def Obligations.FlagsChangeOnlyAsListed : Prop :=
  ∀ (i : Instr) (s t : State), exec i s = .next t →
    (∀ f, s.status.flag f = false → t.status.flag f = true → i ∈ flagSetters f) ∧
    (∀ f, s.status.flag f = true → t.status.flag f = false → i ∈ flagClearers f) ∧
    (t.status.scanState ≠ s.status.scanState → i ∈ scanStateWriters)

/-- PACKET changes only by the commands that call WritePacket and by SOFT_RESET, and each of the former leaves
PKT_VALID = 1 and the derived flags 0 when it changes PACKET (10_state.md R27). -/
def Obligations.PacketChangesOnlyByWritePacket : Prop :=
  ∀ (i : Instr) (s t : State), exec i s = .next t → t.packet ≠ s.packet →
    i = .softReset ∨
    i ∈ packetWriters ∧ t.status.pktValid = true ∧ t.status.fieldsValid = false ∧ t.status.fieldsSplit = false ∧
      t.status.crcValid = false ∧ t.status.crcMatch = false

/-- The outcome of a command is one that R265's table lists for it, and ERR_INFO is of the form R264 gives its code
(60_exceptions.md R260, R264, R265). -/
def Obligations.OutcomesAreTheTablesOutcomes : Prop :=
  ∀ (i : Instr) (s t : State), exec i s = .next t → t.err ∈ possibleOutcomes i ∧ OutcomeInv t.err t.errInfo

/-- NotReady comes first and exactly when a precondition is unmet: then ERR_INFO is the mask of what is unmet and
nothing else changes (60_exceptions.md R262, R264, R265). -/
def Obligations.NotReadyExactlyWhenUnmet : Prop :=
  ∀ (i : Instr) (s : State),
    (unmetMask i s ≠ 0 →
      exec i s = .next { s with err := .notReady, errInfo := BitVec.ofNat 32 (unmetMask i s) }) ∧
    (unmetMask i s = 0 → ∀ t, exec i s = .next t → t.err ≠ .notReady)

/-- No command but LOAD_SHORT reads WIRE_IN: its contents change no other command's outcome (20_memory.md R61). -/
def Obligations.OnlyLoadShortReadsWireIn : Prop :=
  ∀ (i : Instr) (s : State) (other : Vector Byte 32), i ≠ .loadShort →
    (∀ t, exec i s = .next t → exec i { s with wireIn := other } = .next { t with wireIn := other }) ∧
    (∀ f, exec i s = .fault f → exec i { s with wireIn := other } = .fault f)

/-! ### The invariant and the machine's stops -/

/-- Every step keeps the invariant: the capture memory's canonical form, the locator's, the decoder's and the
layout's registers, what the validity flags promise, and the outcome registers (10_state.md R23, R25 to R28, R35,
60_exceptions.md R264). -/
def Obligations.EveryStepKeepsTheInvariant : Prop :=
  ∀ s t : State, Inv s → step s = .next t → Inv t

/-- The state after power-on reset meets the invariant, for every CAP_SIZE (70_reset_and_hazards.md R290).
`State.reset` is the case of the CAP_SIZE that the model chose (log entry 4). -/
def Obligations.ResetMeetsTheInvariant : Prop :=
  Inv State.reset ∧ ∀ c : CapSize, Inv (State.powerOn c)

/-- In the invariant's states the machine stops for one reason alone: a scan read a CAP byte below CAP_LEN that
nothing has written since power-on reset. In particular no core read is outside CAP, and the decoder never stops
(20_memory.md R61, R72, 43_burst_locator.md R173, 93_implementation_defined.md U1). The stop itself is what U1 asks
of a model (log entry 5). That the command stands first in the access list is the model's host (log entry 1). -/
def Obligations.OnlyAnUnwrittenSampleStopsTheMachine : Prop :=
  ∀ s : State, Inv s →
    (∀ r, step s ≠ .refused r) ∧
    ∀ f, step s = .fault f →
      ∃ i, f = .capByteUnwritten i ∧ i < s.capLen.toNat ∧ i < s.capSize.bytes ∧ Memory.read s.cap i = none ∧
        ∃ c rest, s.host = .writeReg 0x00 c :: rest ∧
          (decode (c.setWidth 32) = .ok .scanStep ∨ decode (c.setWidth 32) = .ok .scanRun ∨
            decode (c.setWidth 32) = .ok .locate)

/-- The host may issue any command at any time: in a state of the invariant whose capture is written below CAP_LEN,
every command completes with a next state (70_reset_and_hazards.md R298, 60_exceptions.md R265). -/
def Obligations.EveryCommandCompletesOnAWrittenCapture : Prop :=
  ∀ (i : Instr) (s : State), Inv s → (∀ a, a < s.capLen.toNat → Memory.read s.cap a ≠ none) →
    ∃ t, exec i s = .next t

/-! ### The host's side, byte order and reset -/

/-- to_bytes and from_bytes: byte j weighs 2^(8·(31 − j)), and the two are inverse to each other (20_memory.md R66). -/
def Obligations.WireFormIsInvertible : Prop :=
  (∀ bytes : Vector Byte 32,
    (fromBytes bytes.toList).toNat =
      ((List.range 32).map fun j => (bytes.toList.getD j 0).toNat * 2 ^ (8 * (31 - j))).sum) ∧
  (∀ p : Word256, fromBytes (toBytes p) = p) ∧
  (∀ bytes : Vector Byte 32, toBytes (fromBytes bytes.toList) = bytes.toList)

/-- The register at an index is the one of that row of 10_state.md R22, none at an unassigned index. A host read of
a register, CAP, WIRE_IN or WIRE_OUT has no effect on the block: its value goes to the host, the register of R22's
row, 0 for CMD, an unassigned index and an index out of range (10_state.md R21, R22, R34, 20_memory.md R63, R70,
R71, 60_exceptions.md R260). The access list and readData are the model's (log entry 1); a CAP byte that nothing has
written reads as a free value (log entry 7). -/
def Obligations.HostReadsHaveNoEffect : Prop :=
  (∀ (k : BitVec 6) (r : RegName), regAt k = some r ↔ (k.toNat, r) ∈ indexColumn) ∧
  ∀ (s : State) (rest : List HostAccess) (k : BitVec 6) (n : Nat),
    (s.host = .readReg k :: rest → step s = .next { s with host := rest, readData := readByIndex s k.toNat }) ∧
    (s.host = .readReg k :: rest →
      step s = .next
        { s with
          host := rest
          readData := match regAt k with
            | none => 0
            | some r => if (regRow r).access = .w then 0 else regValue s r }) ∧
    (s.host = .readCap n :: rest →
      ∃ b : Byte, step s = .next { s with host := rest, readData := b.setWidth 256 } ∧
        (s.capSize.bytes ≤ n → b = 0) ∧ (∀ v, n < s.capSize.bytes → Memory.read s.cap n = some v → b = v)) ∧
    (s.host = .readWireIn n :: rest →
      step s = .next { s with host := rest, readData := (s.wireIn.toList.getD n 0).setWidth 256 }) ∧
    (s.host = .readWireOut n :: rest →
      ∃ b : Byte, step s = .next { s with host := rest, readData := b.setWidth 256 } ∧
        (n < 32 → b.toNat = bitRange s.packet (255 - 8 * n) (248 - 8 * n)) ∧ (32 ≤ n → b = 0))

/-- A host write to a register index other than CMD's stores the low bits in the RW register of that row of
10_state.md R22, and for CAP_LEN the smaller of the low 32 bits and CAP_SIZE; every other register, and everything
at a read-only or an unassigned index, stays (10_state.md R21, R22, R34, R35). The access list and readData are the
model's (log entry 1). -/
def Obligations.HostRegisterWritesStore : Prop :=
  ∀ (s : State) (rest : List HostAccess) (k : BitVec 6) (v : Word256),
    s.host = .writeReg k v :: rest → regAt k ≠ some .cmd →
    ∃ t, step s = .next t ∧ t = writeByIndex { s with host := rest } k.toNat v ∧
      t.host = rest ∧ t.cap = s.cap ∧ t.wireIn = s.wireIn ∧ t.readData = s.readData ∧
      (∀ r, regAt k ≠ some r → regValue t r = regValue s r) ∧
      (∀ r, regAt k = some r → (regRow r).access = .r → regValue t r = regValue s r) ∧
      (∀ r, regAt k = some r → (regRow r).access = .rw →
        (regValue t r).toNat =
          if r = .capLen then min (v.toNat % 2 ^ 32) s.capSize.bytes else v.toNat % 2 ^ (regRow r).width)

/-- A host write of a CAP or WIRE_IN byte stores it there and nowhere else; out of range, and to WIRE_OUT, it has no
effect (20_memory.md R61, R62, R63, R71). The access list is the model's (log entry 1). -/
def Obligations.HostByteWritesStore : Prop :=
  ∀ (s : State) (rest : List HostAccess) (n : Nat) (b : Byte),
    (s.host = .writeCap n b :: rest →
      ∃ t, step s = .next t ∧ t = { s with host := rest, cap := t.cap } ∧
        ∀ a, Memory.read t.cap a =
          if a = n ∧ n < s.capSize.bytes then some b else Memory.read s.cap a) ∧
    (s.host = .writeWireIn n b :: rest →
      ∃ t, step s = .next t ∧ t = { s with host := rest, wireIn := t.wireIn } ∧
        ∀ j, t.wireIn.toList.getD j 0 = if j = n ∧ n < 32 then b else s.wireIn.toList.getD j 0) ∧
    (s.host = .writeWireOut n b :: rest → step s = .next { s with host := rest })

/-- Power-on reset puts every register and every WIRE_IN byte at 0, so every WIRE_OUT byte reads 0x00, and no CAP
byte holds a value (log entry 5); CAP_SIZE stays (70_reset_and_hazards.md R290). The host's own list, the value it
last read and the count of resets are the model's (log entries 1 and 8). -/
def Obligations.PowerOnResetZeroesTheBlock : Prop :=
  ∀ (s : State) (rest : List HostAccess), s.host = .powerOnReset :: rest →
    ∃ t, step s = .next t ∧ (∀ r, regValue t r = 0) ∧ t.status.scanState = .notStarted ∧
      (∀ j, t.wireIn.toList.getD j 0 = 0) ∧ (∀ j, wireOutByte t j = 0) ∧ (∀ a, Memory.read t.cap a = none) ∧
      t.capSize = s.capSize ∧ t.host = rest ∧ t.readData = s.readData ∧ t.powerCycles = s.powerCycles + 1

/-- The STATUS word: each flag at its bit, SCAN_STATE's code in bits 10:8, bit 7 and bits 31:11 zero (10_state.md
R23, R24). -/
def Obligations.StatusWordHasTheListedBits : Prop :=
  ∀ st : Status,
    st.word.getLsbD 0 = st.pktValid ∧ st.word.getLsbD 1 = st.layoutValid ∧ st.word.getLsbD 2 = st.layoutKnown ∧
    st.word.getLsbD 3 = st.fieldsValid ∧ st.word.getLsbD 4 = st.fieldsSplit ∧ st.word.getLsbD 5 = st.crcValid ∧
    st.word.getLsbD 6 = st.crcMatch ∧ st.word.getLsbD 7 = false ∧
    st.word.extractLsb' 8 3 =
      (match st.scanState with
        | .notStarted => 0#3
        | .idle => 1#3
        | .inBurst => 2#3
        | .accepted => 3#3
        | .notFound => 4#3) ∧
    st.word.toNat < 2 ^ 11
end

