-- ==== Sys2Proof/Laws/Encoding.lean ====
section
/-! SUPPORT. The fields of a command word assembled by `commandWord` (spec/30_encoding.md R90). -/

namespace Sys2Proof

/-- Bit k of a command word: OP's, A's or B's (30_encoding.md R90). -/
theorem getLsbD_commandWord (op : BitVec 8) (a b : BitVec 9) (k : Nat) :
    (commandWord op a b).getLsbD k =
      (op.getLsbD k || (decide (8 ≤ k) && a.getLsbD (k - 8)) || (decide (17 ≤ k) && b.getLsbD (k - 17))) := by
  by_cases h : k < 32
  · simp only [commandWord, BitVec.getLsbD_or, BitVec.getLsbD_shiftLeft, BitVec.getLsbD_setWidth, h, decide_true,
      Bool.true_and]
    rcases Nat.lt_or_ge k 8 with h8 | h8
    · have h17 : k < 17 := by omega
      simp [h8, h17, Nat.not_le.mpr h8, Nat.not_le.mpr h17]
    · have ha : k - 8 < 32 := by omega
      rcases Nat.lt_or_ge k 17 with h17 | h17
      · simp [h8, h17, ha, Nat.not_lt.mpr h8, Nat.not_le.mpr h17]
      · have hb : k - 17 < 32 := by omega
        simp [h8, h17, ha, hb, Nat.not_lt.mpr h8, Nat.not_lt.mpr h17]
  · simp only [commandWord]
    rw [BitVec.getLsbD_of_ge _ _ (by omega), BitVec.getLsbD_of_ge op _ (by omega),
      BitVec.getLsbD_of_ge a _ (by omega), BitVec.getLsbD_of_ge b _ (by omega)]
    simp

theorem fieldOp_commandWord (op : BitVec 8) (a b : BitVec 9) : fieldOp (commandWord op a b) = op := by
  ext i hi
  rw [fieldOp, BitVec.getElem_extractLsb', getLsbD_commandWord, ← BitVec.getLsbD_eq_getElem, Nat.zero_add]
  have h8 : ¬ 8 ≤ i := by omega
  have h17 : ¬ 17 ≤ i := by omega
  simp [h8, h17]

theorem fieldA_commandWord (op : BitVec 8) (a b : BitVec 9) : fieldA (commandWord op a b) = a := by
  ext i hi
  rw [fieldA, BitVec.getElem_extractLsb', getLsbD_commandWord, ← BitVec.getLsbD_eq_getElem,
    BitVec.getLsbD_of_ge op _ (by omega)]
  have h17 : ¬ 17 ≤ 8 + i := by omega
  simp [h17]

theorem fieldB_commandWord (op : BitVec 8) (a b : BitVec 9) : fieldB (commandWord op a b) = b := by
  ext i hi
  rw [fieldB, BitVec.getElem_extractLsb', getLsbD_commandWord, ← BitVec.getLsbD_eq_getElem,
    BitVec.getLsbD_of_ge op _ (by omega), BitVec.getLsbD_of_ge a _ (by omega)]
  simp

theorem fieldRsv_commandWord (op : BitVec 8) (a b : BitVec 9) : fieldRsv (commandWord op a b) = 0 := by
  ext i hi
  rw [fieldRsv, BitVec.getElem_extractLsb', getLsbD_commandWord, BitVec.getLsbD_of_ge op _ (by omega),
    BitVec.getLsbD_of_ge a _ (by omega), BitVec.getLsbD_of_ge b _ (by omega)]
  simp

end Sys2Proof
end

