-- ==== Sys2Proof/Laws/Memory.lean ====
section
/-! SUPPORT. The capture memory: reads after writes, and the canonical form (spec/20_memory.md R60, R71). -/

namespace Sys2Proof.Machine

@[simp] theorem Memory.read_nil (i : Nat) : Memory.read [] i = none := rfl

@[simp] theorem Memory.wf_nil : Memory.wf [] = true := rfl

/-- A read after a write: the byte written, or what was there before. -/
theorem Memory.read_write (m : Memory) (i j : Nat) (v : Byte) :
    Memory.read (Memory.write m i v) j = if j = i then some v else Memory.read m j := by
  induction m with
  | nil => simp [Memory.write, Memory.read, eq_comm]
  | cons c rest ih =>
    obtain ⟨a, b⟩ := c
    by_cases hlt : i < a
    · simp [Memory.write, Memory.read, hlt, eq_comm]
    · by_cases heq : i = a
      · subst heq
        by_cases hj : j = i
        · simp [Memory.write, Memory.read, hj]
        · have hij : ¬ i = j := fun h => hj h.symm
          simp [Memory.write, Memory.read, hj, hij]
      · by_cases hj : j = i
        · subst hj
          have ha : ¬ a = j := fun h => heq h.symm
          simp [Memory.write, Memory.read, hlt, heq, ih, ha]
        · simp [Memory.write, Memory.read, hlt, heq, ih, hj]

@[simp] theorem Memory.read_write_same (m : Memory) (i : Nat) (v : Byte) :
    Memory.read (Memory.write m i v) i = some v := by simp [Memory.read_write]

theorem Memory.read_write_other (m : Memory) {i j : Nat} (v : Byte) (h : j ≠ i) :
    Memory.read (Memory.write m i v) j = Memory.read m j := by simp [Memory.read_write, h]

/-- A write above a bound keeps the list above it. -/
theorem Memory.wfAbove_write (m : Memory) (k i : Nat) (v : Byte) (hk : k < i) (h : Memory.wfAbove k m = true) :
    Memory.wfAbove k (Memory.write m i v) = true := by
  induction m generalizing k with
  | nil => simp [Memory.write, Memory.wfAbove, hk]
  | cons c rest ih =>
    obtain ⟨a, b⟩ := c
    simp only [Memory.wfAbove, Bool.and_eq_true, decide_eq_true_eq] at h
    by_cases hlt : i < a
    · simp [Memory.write, Memory.wfAbove, hlt, hk, h.2]
    · by_cases heq : i = a
      · subst heq; simp [Memory.write, Memory.wfAbove, hk, h.2]
      · have hai : a < i := by omega
        simp [Memory.write, Memory.wfAbove, hlt, heq, h.1, ih a hai h.2]

/-- Every write keeps the canonical form. -/
theorem Memory.wf_write (m : Memory) (i : Nat) (v : Byte) (h : Memory.wf m = true) :
    Memory.wf (Memory.write m i v) = true := by
  cases m with
  | nil => simp [Memory.write, Memory.wf, Memory.wfAbove]
  | cons c rest =>
    obtain ⟨a, b⟩ := c
    simp only [Memory.wf] at h
    by_cases hlt : i < a
    · simp [Memory.write, Memory.wf, Memory.wfAbove, hlt, h]
    · by_cases heq : i = a
      · subst heq; simp [Memory.write, Memory.wf, h]
      · have hai : a < i := by omega
        simpa [Memory.write, Memory.wf, hlt, heq] using Memory.wfAbove_write rest a i v hai h

/-- What a host write of a CAP byte leaves at every index. -/
theorem read_hostWriteCap (s : State) (i j : Nat) (v : Byte) :
    Memory.read (hostWriteCap i v s).cap j =
      if j = i ∧ i < s.capSize.bytes then some v else Memory.read s.cap j := by
  by_cases hi : i < s.capSize.bytes <;> simp [hostWriteCap, hi, Memory.read_write]

/-- A host write of a CAP byte keeps the canonical form. -/
theorem wf_hostWriteCap (s : State) (i : Nat) (v : Byte) (h : Memory.wf s.cap = true) :
    Memory.wf (hostWriteCap i v s).cap = true := by
  by_cases hi : i < s.capSize.bytes <;> simp [hostWriteCap, hi, h, Memory.wf_write]

/-- The memory after reset has the canonical form. -/
theorem wf_reset_cap : Memory.wf State.reset.cap = true := rfl

/-- When the core's read of CAP gives a byte. -/
theorem capRead_ok_iff (s : State) (i : Nat) (b : Byte) :
    capRead s i = .ok b ↔ i < s.capSize.bytes ∧ Memory.read s.cap i = some b := by
  unfold capRead
  by_cases hi : i < s.capSize.bytes
  · cases hr : Memory.read s.cap i <;> simp [hi]
  · simp [hi]

/-- When the core's read of CAP stops the machine. -/
theorem capRead_error_iff (s : State) (i : Nat) (f : Fault) :
    capRead s i = .error f ↔
      i < s.capSize.bytes ∧ Memory.read s.cap i = none ∧ f = .capByteUnwritten i ∨
      s.capSize.bytes ≤ i ∧ f = .capIndexOutside i := by
  unfold capRead
  by_cases hi : i < s.capSize.bytes
  · have hn : ¬ s.capSize.bytes ≤ i := by omega
    cases hr : Memory.read s.cap i <;> simp [hi, hn, eq_comm]
  · have hn : s.capSize.bytes ≤ i := by omega
    simp [hi, hn, eq_comm]

end Sys2Proof.Machine
end

