-- ==== Sys2Proof/Laws/State.lean ====
section
/-! SUPPORT. What each named update of the state does to each field: one lemma per field per update, true by rfl. -/

namespace Sys2Proof.Machine

/-! ### The outcome -/

@[simp] theorem withOutcome_cmd (s : State) (e : Err) (info : Word32) : (s.withOutcome e info).cmd = s.cmd := rfl
@[simp] theorem withOutcome_status (s : State) (e : Err) (info : Word32) : (s.withOutcome e info).status = s.status := rfl
@[simp] theorem withOutcome_err (s : State) (e : Err) (info : Word32) : (s.withOutcome e info).err = e := rfl
@[simp] theorem withOutcome_errInfo (s : State) (e : Err) (info : Word32) : (s.withOutcome e info).errInfo = info := rfl
@[simp] theorem withOutcome_capLen (s : State) (e : Err) (info : Word32) : (s.withOutcome e info).capLen = s.capLen := rfl
@[simp] theorem withOutcome_scanPos (s : State) (e : Err) (info : Word32) : (s.withOutcome e info).scanPos = s.scanPos := rfl
@[simp] theorem withOutcome_runStart (s : State) (e : Err) (info : Word32) : (s.withOutcome e info).runStart = s.runStart := rfl
@[simp] theorem withOutcome_runLength (s : State) (e : Err) (info : Word32) : (s.withOutcome e info).runLength = s.runLength := rfl
@[simp] theorem withOutcome_consecZeros (s : State) (e : Err) (info : Word32) : (s.withOutcome e info).consecZeros = s.consecZeros := rfl
@[simp] theorem withOutcome_consecOnes (s : State) (e : Err) (info : Word32) : (s.withOutcome e info).consecOnes = s.consecOnes := rfl
@[simp] theorem withOutcome_burstOffset (s : State) (e : Err) (info : Word32) : (s.withOutcome e info).burstOffset = s.burstOffset := rfl
@[simp] theorem withOutcome_mdecCount (s : State) (e : Err) (info : Word32) : (s.withOutcome e info).mdecCount = s.mdecCount := rfl
@[simp] theorem withOutcome_mdecAcc (s : State) (e : Err) (info : Word32) : (s.withOutcome e info).mdecAcc = s.mdecAcc := rfl
@[simp] theorem withOutcome_packet (s : State) (e : Err) (info : Word32) : (s.withOutcome e info).packet = s.packet := rfl
@[simp] theorem withOutcome_sliceOut (s : State) (e : Err) (info : Word32) : (s.withOutcome e info).sliceOut = s.sliceOut := rfl
@[simp] theorem withOutcome_pushAcc (s : State) (e : Err) (info : Word32) : (s.withOutcome e info).pushAcc = s.pushAcc := rfl
@[simp] theorem withOutcome_pushVal (s : State) (e : Err) (info : Word32) : (s.withOutcome e info).pushVal = s.pushVal := rfl
@[simp] theorem withOutcome_crc (s : State) (e : Err) (info : Word32) : (s.withOutcome e info).crc = s.crc := rfl
@[simp] theorem withOutcome_crcExpected (s : State) (e : Err) (info : Word32) : (s.withOutcome e info).crcExpected = s.crcExpected := rfl
@[simp] theorem withOutcome_crcActual (s : State) (e : Err) (info : Word32) : (s.withOutcome e info).crcActual = s.crcActual := rfl
@[simp] theorem withOutcome_agencyIn (s : State) (e : Err) (info : Word32) : (s.withOutcome e info).agencyIn = s.agencyIn := rfl
@[simp] theorem withOutcome_overrideCtl (s : State) (e : Err) (info : Word32) : (s.withOutcome e info).overrideCtl = s.overrideCtl := rfl
@[simp] theorem withOutcome_overrideDivider (s : State) (e : Err) (info : Word32) : (s.withOutcome e info).overrideDivider = s.overrideDivider := rfl
@[simp] theorem withOutcome_divider (s : State) (e : Err) (info : Word32) : (s.withOutcome e info).divider = s.divider := rfl
@[simp] theorem withOutcome_afLen (s : State) (e : Err) (info : Word32) : (s.withOutcome e info).afLen = s.afLen := rfl
@[simp] theorem withOutcome_pb1Len (s : State) (e : Err) (info : Word32) : (s.withOutcome e info).pb1Len = s.pb1Len := rfl
@[simp] theorem withOutcome_fields (s : State) (e : Err) (info : Word32) : (s.withOutcome e info).fields = s.fields := rfl
@[simp] theorem withOutcome_inputs (s : State) (e : Err) (info : Word32) : (s.withOutcome e info).inputs = s.inputs := rfl
@[simp] theorem withOutcome_cap (s : State) (e : Err) (info : Word32) : (s.withOutcome e info).cap = s.cap := rfl
@[simp] theorem withOutcome_wireIn (s : State) (e : Err) (info : Word32) : (s.withOutcome e info).wireIn = s.wireIn := rfl
@[simp] theorem withOutcome_capSize (s : State) (e : Err) (info : Word32) : (s.withOutcome e info).capSize = s.capSize := rfl
@[simp] theorem withOutcome_host (s : State) (e : Err) (info : Word32) : (s.withOutcome e info).host = s.host := rfl
@[simp] theorem withOutcome_readData (s : State) (e : Err) (info : Word32) : (s.withOutcome e info).readData = s.readData := rfl
@[simp] theorem withOutcome_powerCycles (s : State) (e : Err) (info : Word32) : (s.withOutcome e info).powerCycles = s.powerCycles := rfl

/-! ### The packet write -/

@[simp] theorem writePacket_cmd (v : Word256) (s : State) : (writePacket v s).cmd = s.cmd := rfl
@[simp] theorem writePacket_status (v : Word256) (s : State) : (writePacket v s).status = { s.status.dropDerived with pktValid := true } := rfl
@[simp] theorem writePacket_err (v : Word256) (s : State) : (writePacket v s).err = s.err := rfl
@[simp] theorem writePacket_errInfo (v : Word256) (s : State) : (writePacket v s).errInfo = s.errInfo := rfl
@[simp] theorem writePacket_capLen (v : Word256) (s : State) : (writePacket v s).capLen = s.capLen := rfl
@[simp] theorem writePacket_scanPos (v : Word256) (s : State) : (writePacket v s).scanPos = s.scanPos := rfl
@[simp] theorem writePacket_runStart (v : Word256) (s : State) : (writePacket v s).runStart = s.runStart := rfl
@[simp] theorem writePacket_runLength (v : Word256) (s : State) : (writePacket v s).runLength = s.runLength := rfl
@[simp] theorem writePacket_consecZeros (v : Word256) (s : State) : (writePacket v s).consecZeros = s.consecZeros := rfl
@[simp] theorem writePacket_consecOnes (v : Word256) (s : State) : (writePacket v s).consecOnes = s.consecOnes := rfl
@[simp] theorem writePacket_burstOffset (v : Word256) (s : State) : (writePacket v s).burstOffset = s.burstOffset := rfl
@[simp] theorem writePacket_mdecCount (v : Word256) (s : State) : (writePacket v s).mdecCount = s.mdecCount := rfl
@[simp] theorem writePacket_mdecAcc (v : Word256) (s : State) : (writePacket v s).mdecAcc = s.mdecAcc := rfl
@[simp] theorem writePacket_packet (v : Word256) (s : State) : (writePacket v s).packet = v := rfl
@[simp] theorem writePacket_sliceOut (v : Word256) (s : State) : (writePacket v s).sliceOut = s.sliceOut := rfl
@[simp] theorem writePacket_pushAcc (v : Word256) (s : State) : (writePacket v s).pushAcc = s.pushAcc := rfl
@[simp] theorem writePacket_pushVal (v : Word256) (s : State) : (writePacket v s).pushVal = s.pushVal := rfl
@[simp] theorem writePacket_crc (v : Word256) (s : State) : (writePacket v s).crc = s.crc := rfl
@[simp] theorem writePacket_crcExpected (v : Word256) (s : State) : (writePacket v s).crcExpected = s.crcExpected := rfl
@[simp] theorem writePacket_crcActual (v : Word256) (s : State) : (writePacket v s).crcActual = s.crcActual := rfl
@[simp] theorem writePacket_agencyIn (v : Word256) (s : State) : (writePacket v s).agencyIn = s.agencyIn := rfl
@[simp] theorem writePacket_overrideCtl (v : Word256) (s : State) : (writePacket v s).overrideCtl = s.overrideCtl := rfl
@[simp] theorem writePacket_overrideDivider (v : Word256) (s : State) : (writePacket v s).overrideDivider = s.overrideDivider := rfl
@[simp] theorem writePacket_divider (v : Word256) (s : State) : (writePacket v s).divider = s.divider := rfl
@[simp] theorem writePacket_afLen (v : Word256) (s : State) : (writePacket v s).afLen = s.afLen := rfl
@[simp] theorem writePacket_pb1Len (v : Word256) (s : State) : (writePacket v s).pb1Len = s.pb1Len := rfl
@[simp] theorem writePacket_fields (v : Word256) (s : State) : (writePacket v s).fields = s.fields := rfl
@[simp] theorem writePacket_inputs (v : Word256) (s : State) : (writePacket v s).inputs = s.inputs := rfl
@[simp] theorem writePacket_cap (v : Word256) (s : State) : (writePacket v s).cap = s.cap := rfl
@[simp] theorem writePacket_wireIn (v : Word256) (s : State) : (writePacket v s).wireIn = s.wireIn := rfl
@[simp] theorem writePacket_capSize (v : Word256) (s : State) : (writePacket v s).capSize = s.capSize := rfl
@[simp] theorem writePacket_host (v : Word256) (s : State) : (writePacket v s).host = s.host := rfl
@[simp] theorem writePacket_readData (v : Word256) (s : State) : (writePacket v s).readData = s.readData := rfl
@[simp] theorem writePacket_powerCycles (v : Word256) (s : State) : (writePacket v s).powerCycles = s.powerCycles := rfl

/-! ### The close of a candidate -/

@[simp] theorem closeCandidate_cmd (s : State) : (closeCandidate s).cmd = s.cmd := rfl
@[simp] theorem closeCandidate_status (s : State) : (closeCandidate s).status = { s.status with scanState := .idle } := rfl
@[simp] theorem closeCandidate_err (s : State) : (closeCandidate s).err = s.err := rfl
@[simp] theorem closeCandidate_errInfo (s : State) : (closeCandidate s).errInfo = s.errInfo := rfl
@[simp] theorem closeCandidate_capLen (s : State) : (closeCandidate s).capLen = s.capLen := rfl
@[simp] theorem closeCandidate_scanPos (s : State) : (closeCandidate s).scanPos = s.scanPos := rfl
@[simp] theorem closeCandidate_runStart (s : State) : (closeCandidate s).runStart = 0 := rfl
@[simp] theorem closeCandidate_runLength (s : State) : (closeCandidate s).runLength = 0 := rfl
@[simp] theorem closeCandidate_consecZeros (s : State) : (closeCandidate s).consecZeros = 0 := rfl
@[simp] theorem closeCandidate_consecOnes (s : State) : (closeCandidate s).consecOnes = 0 := rfl
@[simp] theorem closeCandidate_burstOffset (s : State) : (closeCandidate s).burstOffset = s.burstOffset := rfl
@[simp] theorem closeCandidate_mdecCount (s : State) : (closeCandidate s).mdecCount = s.mdecCount := rfl
@[simp] theorem closeCandidate_mdecAcc (s : State) : (closeCandidate s).mdecAcc = s.mdecAcc := rfl
@[simp] theorem closeCandidate_packet (s : State) : (closeCandidate s).packet = s.packet := rfl
@[simp] theorem closeCandidate_sliceOut (s : State) : (closeCandidate s).sliceOut = s.sliceOut := rfl
@[simp] theorem closeCandidate_pushAcc (s : State) : (closeCandidate s).pushAcc = s.pushAcc := rfl
@[simp] theorem closeCandidate_pushVal (s : State) : (closeCandidate s).pushVal = s.pushVal := rfl
@[simp] theorem closeCandidate_crc (s : State) : (closeCandidate s).crc = s.crc := rfl
@[simp] theorem closeCandidate_crcExpected (s : State) : (closeCandidate s).crcExpected = s.crcExpected := rfl
@[simp] theorem closeCandidate_crcActual (s : State) : (closeCandidate s).crcActual = s.crcActual := rfl
@[simp] theorem closeCandidate_agencyIn (s : State) : (closeCandidate s).agencyIn = s.agencyIn := rfl
@[simp] theorem closeCandidate_overrideCtl (s : State) : (closeCandidate s).overrideCtl = s.overrideCtl := rfl
@[simp] theorem closeCandidate_overrideDivider (s : State) : (closeCandidate s).overrideDivider = s.overrideDivider := rfl
@[simp] theorem closeCandidate_divider (s : State) : (closeCandidate s).divider = s.divider := rfl
@[simp] theorem closeCandidate_afLen (s : State) : (closeCandidate s).afLen = s.afLen := rfl
@[simp] theorem closeCandidate_pb1Len (s : State) : (closeCandidate s).pb1Len = s.pb1Len := rfl
@[simp] theorem closeCandidate_fields (s : State) : (closeCandidate s).fields = s.fields := rfl
@[simp] theorem closeCandidate_inputs (s : State) : (closeCandidate s).inputs = s.inputs := rfl
@[simp] theorem closeCandidate_cap (s : State) : (closeCandidate s).cap = s.cap := rfl
@[simp] theorem closeCandidate_wireIn (s : State) : (closeCandidate s).wireIn = s.wireIn := rfl
@[simp] theorem closeCandidate_capSize (s : State) : (closeCandidate s).capSize = s.capSize := rfl
@[simp] theorem closeCandidate_host (s : State) : (closeCandidate s).host = s.host := rfl
@[simp] theorem closeCandidate_readData (s : State) : (closeCandidate s).readData = s.readData := rfl
@[simp] theorem closeCandidate_powerCycles (s : State) : (closeCandidate s).powerCycles = s.powerCycles := rfl

/-! ### The clears of SCAN_INIT -/

@[simp] theorem scanCleared_cmd (s : State) : (scanCleared s).cmd = s.cmd := rfl
@[simp] theorem scanCleared_status (s : State) : (scanCleared s).status = { s.status.dropDerived with pktValid := false } := rfl
@[simp] theorem scanCleared_err (s : State) : (scanCleared s).err = s.err := rfl
@[simp] theorem scanCleared_errInfo (s : State) : (scanCleared s).errInfo = s.errInfo := rfl
@[simp] theorem scanCleared_capLen (s : State) : (scanCleared s).capLen = s.capLen := rfl
@[simp] theorem scanCleared_scanPos (s : State) : (scanCleared s).scanPos = 0 := rfl
@[simp] theorem scanCleared_runStart (s : State) : (scanCleared s).runStart = 0 := rfl
@[simp] theorem scanCleared_runLength (s : State) : (scanCleared s).runLength = 0 := rfl
@[simp] theorem scanCleared_consecZeros (s : State) : (scanCleared s).consecZeros = 0 := rfl
@[simp] theorem scanCleared_consecOnes (s : State) : (scanCleared s).consecOnes = 0 := rfl
@[simp] theorem scanCleared_burstOffset (s : State) : (scanCleared s).burstOffset = 0 := rfl
@[simp] theorem scanCleared_mdecCount (s : State) : (scanCleared s).mdecCount = 0 := rfl
@[simp] theorem scanCleared_mdecAcc (s : State) : (scanCleared s).mdecAcc = 0 := rfl
@[simp] theorem scanCleared_packet (s : State) : (scanCleared s).packet = s.packet := rfl
@[simp] theorem scanCleared_sliceOut (s : State) : (scanCleared s).sliceOut = s.sliceOut := rfl
@[simp] theorem scanCleared_pushAcc (s : State) : (scanCleared s).pushAcc = s.pushAcc := rfl
@[simp] theorem scanCleared_pushVal (s : State) : (scanCleared s).pushVal = s.pushVal := rfl
@[simp] theorem scanCleared_crc (s : State) : (scanCleared s).crc = s.crc := rfl
@[simp] theorem scanCleared_crcExpected (s : State) : (scanCleared s).crcExpected = s.crcExpected := rfl
@[simp] theorem scanCleared_crcActual (s : State) : (scanCleared s).crcActual = s.crcActual := rfl
@[simp] theorem scanCleared_agencyIn (s : State) : (scanCleared s).agencyIn = s.agencyIn := rfl
@[simp] theorem scanCleared_overrideCtl (s : State) : (scanCleared s).overrideCtl = s.overrideCtl := rfl
@[simp] theorem scanCleared_overrideDivider (s : State) : (scanCleared s).overrideDivider = s.overrideDivider := rfl
@[simp] theorem scanCleared_divider (s : State) : (scanCleared s).divider = s.divider := rfl
@[simp] theorem scanCleared_afLen (s : State) : (scanCleared s).afLen = s.afLen := rfl
@[simp] theorem scanCleared_pb1Len (s : State) : (scanCleared s).pb1Len = s.pb1Len := rfl
@[simp] theorem scanCleared_fields (s : State) : (scanCleared s).fields = s.fields := rfl
@[simp] theorem scanCleared_inputs (s : State) : (scanCleared s).inputs = s.inputs := rfl
@[simp] theorem scanCleared_cap (s : State) : (scanCleared s).cap = s.cap := rfl
@[simp] theorem scanCleared_wireIn (s : State) : (scanCleared s).wireIn = s.wireIn := rfl
@[simp] theorem scanCleared_capSize (s : State) : (scanCleared s).capSize = s.capSize := rfl
@[simp] theorem scanCleared_host (s : State) : (scanCleared s).host = s.host := rfl
@[simp] theorem scanCleared_readData (s : State) : (scanCleared s).readData = s.readData := rfl
@[simp] theorem scanCleared_powerCycles (s : State) : (scanCleared s).powerCycles = s.powerCycles := rfl

/-! ### The layout registers -/

@[simp] theorem writeLayout_cmd (v k : Bool) (d a p : Nat) (s : State) : (writeLayout v k d a p s).cmd = s.cmd := rfl
@[simp] theorem writeLayout_status (v k : Bool) (d a p : Nat) (s : State) : (writeLayout v k d a p s).status = { s.status with layoutValid := v, layoutKnown := k } := rfl
@[simp] theorem writeLayout_err (v k : Bool) (d a p : Nat) (s : State) : (writeLayout v k d a p s).err = s.err := rfl
@[simp] theorem writeLayout_errInfo (v k : Bool) (d a p : Nat) (s : State) : (writeLayout v k d a p s).errInfo = s.errInfo := rfl
@[simp] theorem writeLayout_capLen (v k : Bool) (d a p : Nat) (s : State) : (writeLayout v k d a p s).capLen = s.capLen := rfl
@[simp] theorem writeLayout_scanPos (v k : Bool) (d a p : Nat) (s : State) : (writeLayout v k d a p s).scanPos = s.scanPos := rfl
@[simp] theorem writeLayout_runStart (v k : Bool) (d a p : Nat) (s : State) : (writeLayout v k d a p s).runStart = s.runStart := rfl
@[simp] theorem writeLayout_runLength (v k : Bool) (d a p : Nat) (s : State) : (writeLayout v k d a p s).runLength = s.runLength := rfl
@[simp] theorem writeLayout_consecZeros (v k : Bool) (d a p : Nat) (s : State) : (writeLayout v k d a p s).consecZeros = s.consecZeros := rfl
@[simp] theorem writeLayout_consecOnes (v k : Bool) (d a p : Nat) (s : State) : (writeLayout v k d a p s).consecOnes = s.consecOnes := rfl
@[simp] theorem writeLayout_burstOffset (v k : Bool) (d a p : Nat) (s : State) : (writeLayout v k d a p s).burstOffset = s.burstOffset := rfl
@[simp] theorem writeLayout_mdecCount (v k : Bool) (d a p : Nat) (s : State) : (writeLayout v k d a p s).mdecCount = s.mdecCount := rfl
@[simp] theorem writeLayout_mdecAcc (v k : Bool) (d a p : Nat) (s : State) : (writeLayout v k d a p s).mdecAcc = s.mdecAcc := rfl
@[simp] theorem writeLayout_packet (v k : Bool) (d a p : Nat) (s : State) : (writeLayout v k d a p s).packet = s.packet := rfl
@[simp] theorem writeLayout_sliceOut (v k : Bool) (d a p : Nat) (s : State) : (writeLayout v k d a p s).sliceOut = s.sliceOut := rfl
@[simp] theorem writeLayout_pushAcc (v k : Bool) (d a p : Nat) (s : State) : (writeLayout v k d a p s).pushAcc = s.pushAcc := rfl
@[simp] theorem writeLayout_pushVal (v k : Bool) (d a p : Nat) (s : State) : (writeLayout v k d a p s).pushVal = s.pushVal := rfl
@[simp] theorem writeLayout_crc (v k : Bool) (d a p : Nat) (s : State) : (writeLayout v k d a p s).crc = s.crc := rfl
@[simp] theorem writeLayout_crcExpected (v k : Bool) (d a p : Nat) (s : State) : (writeLayout v k d a p s).crcExpected = s.crcExpected := rfl
@[simp] theorem writeLayout_crcActual (v k : Bool) (d a p : Nat) (s : State) : (writeLayout v k d a p s).crcActual = s.crcActual := rfl
@[simp] theorem writeLayout_agencyIn (v k : Bool) (d a p : Nat) (s : State) : (writeLayout v k d a p s).agencyIn = s.agencyIn := rfl
@[simp] theorem writeLayout_overrideCtl (v k : Bool) (d a p : Nat) (s : State) : (writeLayout v k d a p s).overrideCtl = s.overrideCtl := rfl
@[simp] theorem writeLayout_overrideDivider (v k : Bool) (d a p : Nat) (s : State) : (writeLayout v k d a p s).overrideDivider = s.overrideDivider := rfl
@[simp] theorem writeLayout_divider (v k : Bool) (d a p : Nat) (s : State) : (writeLayout v k d a p s).divider = BitVec.ofNat 16 d := rfl
@[simp] theorem writeLayout_afLen (v k : Bool) (d a p : Nat) (s : State) : (writeLayout v k d a p s).afLen = BitVec.ofNat 8 a := rfl
@[simp] theorem writeLayout_pb1Len (v k : Bool) (d a p : Nat) (s : State) : (writeLayout v k d a p s).pb1Len = BitVec.ofNat 8 p := rfl
@[simp] theorem writeLayout_fields (v k : Bool) (d a p : Nat) (s : State) : (writeLayout v k d a p s).fields = s.fields := rfl
@[simp] theorem writeLayout_inputs (v k : Bool) (d a p : Nat) (s : State) : (writeLayout v k d a p s).inputs = s.inputs := rfl
@[simp] theorem writeLayout_cap (v k : Bool) (d a p : Nat) (s : State) : (writeLayout v k d a p s).cap = s.cap := rfl
@[simp] theorem writeLayout_wireIn (v k : Bool) (d a p : Nat) (s : State) : (writeLayout v k d a p s).wireIn = s.wireIn := rfl
@[simp] theorem writeLayout_capSize (v k : Bool) (d a p : Nat) (s : State) : (writeLayout v k d a p s).capSize = s.capSize := rfl
@[simp] theorem writeLayout_host (v k : Bool) (d a p : Nat) (s : State) : (writeLayout v k d a p s).host = s.host := rfl
@[simp] theorem writeLayout_readData (v k : Bool) (d a p : Nat) (s : State) : (writeLayout v k d a p s).readData = s.readData := rfl
@[simp] theorem writeLayout_powerCycles (v k : Bool) (d a p : Nat) (s : State) : (writeLayout v k d a p s).powerCycles = s.powerCycles := rfl

/-! ### SOFT_RESET -/

@[simp] theorem softResetState_cmd (s : State) : (softResetState s).cmd = s.cmd := rfl
@[simp] theorem softResetState_status (s : State) : (softResetState s).status = Status.reset := rfl
@[simp] theorem softResetState_err (s : State) : (softResetState s).err = .ok := rfl
@[simp] theorem softResetState_errInfo (s : State) : (softResetState s).errInfo = 0 := rfl
@[simp] theorem softResetState_capLen (s : State) : (softResetState s).capLen = s.capLen := rfl
@[simp] theorem softResetState_scanPos (s : State) : (softResetState s).scanPos = 0 := rfl
@[simp] theorem softResetState_runStart (s : State) : (softResetState s).runStart = 0 := rfl
@[simp] theorem softResetState_runLength (s : State) : (softResetState s).runLength = 0 := rfl
@[simp] theorem softResetState_consecZeros (s : State) : (softResetState s).consecZeros = 0 := rfl
@[simp] theorem softResetState_consecOnes (s : State) : (softResetState s).consecOnes = 0 := rfl
@[simp] theorem softResetState_burstOffset (s : State) : (softResetState s).burstOffset = 0 := rfl
@[simp] theorem softResetState_mdecCount (s : State) : (softResetState s).mdecCount = 0 := rfl
@[simp] theorem softResetState_mdecAcc (s : State) : (softResetState s).mdecAcc = 0 := rfl
@[simp] theorem softResetState_packet (s : State) : (softResetState s).packet = 0 := rfl
@[simp] theorem softResetState_sliceOut (s : State) : (softResetState s).sliceOut = 0 := rfl
@[simp] theorem softResetState_pushAcc (s : State) : (softResetState s).pushAcc = 0 := rfl
@[simp] theorem softResetState_pushVal (s : State) : (softResetState s).pushVal = s.pushVal := rfl
@[simp] theorem softResetState_crc (s : State) : (softResetState s).crc = 0 := rfl
@[simp] theorem softResetState_crcExpected (s : State) : (softResetState s).crcExpected = 0 := rfl
@[simp] theorem softResetState_crcActual (s : State) : (softResetState s).crcActual = 0 := rfl
@[simp] theorem softResetState_agencyIn (s : State) : (softResetState s).agencyIn = s.agencyIn := rfl
@[simp] theorem softResetState_overrideCtl (s : State) : (softResetState s).overrideCtl = s.overrideCtl := rfl
@[simp] theorem softResetState_overrideDivider (s : State) : (softResetState s).overrideDivider = s.overrideDivider := rfl
@[simp] theorem softResetState_divider (s : State) : (softResetState s).divider = 0 := rfl
@[simp] theorem softResetState_afLen (s : State) : (softResetState s).afLen = 0 := rfl
@[simp] theorem softResetState_pb1Len (s : State) : (softResetState s).pb1Len = 0 := rfl
@[simp] theorem softResetState_fields (s : State) : (softResetState s).fields = FieldRegs.reset := rfl
@[simp] theorem softResetState_inputs (s : State) : (softResetState s).inputs = s.inputs := rfl
@[simp] theorem softResetState_cap (s : State) : (softResetState s).cap = s.cap := rfl
@[simp] theorem softResetState_wireIn (s : State) : (softResetState s).wireIn = s.wireIn := rfl
@[simp] theorem softResetState_capSize (s : State) : (softResetState s).capSize = s.capSize := rfl
@[simp] theorem softResetState_host (s : State) : (softResetState s).host = s.host := rfl
@[simp] theorem softResetState_readData (s : State) : (softResetState s).readData = s.readData := rfl
@[simp] theorem softResetState_powerCycles (s : State) : (softResetState s).powerCycles = s.powerCycles := rfl

/-! ### A host read -/

@[simp] theorem returning_cmd (s : State) (v : Word256) : (s.returning v).cmd = s.cmd := rfl
@[simp] theorem returning_status (s : State) (v : Word256) : (s.returning v).status = s.status := rfl
@[simp] theorem returning_err (s : State) (v : Word256) : (s.returning v).err = s.err := rfl
@[simp] theorem returning_errInfo (s : State) (v : Word256) : (s.returning v).errInfo = s.errInfo := rfl
@[simp] theorem returning_capLen (s : State) (v : Word256) : (s.returning v).capLen = s.capLen := rfl
@[simp] theorem returning_scanPos (s : State) (v : Word256) : (s.returning v).scanPos = s.scanPos := rfl
@[simp] theorem returning_runStart (s : State) (v : Word256) : (s.returning v).runStart = s.runStart := rfl
@[simp] theorem returning_runLength (s : State) (v : Word256) : (s.returning v).runLength = s.runLength := rfl
@[simp] theorem returning_consecZeros (s : State) (v : Word256) : (s.returning v).consecZeros = s.consecZeros := rfl
@[simp] theorem returning_consecOnes (s : State) (v : Word256) : (s.returning v).consecOnes = s.consecOnes := rfl
@[simp] theorem returning_burstOffset (s : State) (v : Word256) : (s.returning v).burstOffset = s.burstOffset := rfl
@[simp] theorem returning_mdecCount (s : State) (v : Word256) : (s.returning v).mdecCount = s.mdecCount := rfl
@[simp] theorem returning_mdecAcc (s : State) (v : Word256) : (s.returning v).mdecAcc = s.mdecAcc := rfl
@[simp] theorem returning_packet (s : State) (v : Word256) : (s.returning v).packet = s.packet := rfl
@[simp] theorem returning_sliceOut (s : State) (v : Word256) : (s.returning v).sliceOut = s.sliceOut := rfl
@[simp] theorem returning_pushAcc (s : State) (v : Word256) : (s.returning v).pushAcc = s.pushAcc := rfl
@[simp] theorem returning_pushVal (s : State) (v : Word256) : (s.returning v).pushVal = s.pushVal := rfl
@[simp] theorem returning_crc (s : State) (v : Word256) : (s.returning v).crc = s.crc := rfl
@[simp] theorem returning_crcExpected (s : State) (v : Word256) : (s.returning v).crcExpected = s.crcExpected := rfl
@[simp] theorem returning_crcActual (s : State) (v : Word256) : (s.returning v).crcActual = s.crcActual := rfl
@[simp] theorem returning_agencyIn (s : State) (v : Word256) : (s.returning v).agencyIn = s.agencyIn := rfl
@[simp] theorem returning_overrideCtl (s : State) (v : Word256) : (s.returning v).overrideCtl = s.overrideCtl := rfl
@[simp] theorem returning_overrideDivider (s : State) (v : Word256) : (s.returning v).overrideDivider = s.overrideDivider := rfl
@[simp] theorem returning_divider (s : State) (v : Word256) : (s.returning v).divider = s.divider := rfl
@[simp] theorem returning_afLen (s : State) (v : Word256) : (s.returning v).afLen = s.afLen := rfl
@[simp] theorem returning_pb1Len (s : State) (v : Word256) : (s.returning v).pb1Len = s.pb1Len := rfl
@[simp] theorem returning_fields (s : State) (v : Word256) : (s.returning v).fields = s.fields := rfl
@[simp] theorem returning_inputs (s : State) (v : Word256) : (s.returning v).inputs = s.inputs := rfl
@[simp] theorem returning_cap (s : State) (v : Word256) : (s.returning v).cap = s.cap := rfl
@[simp] theorem returning_wireIn (s : State) (v : Word256) : (s.returning v).wireIn = s.wireIn := rfl
@[simp] theorem returning_capSize (s : State) (v : Word256) : (s.returning v).capSize = s.capSize := rfl
@[simp] theorem returning_host (s : State) (v : Word256) : (s.returning v).host = s.host := rfl
@[simp] theorem returning_readData (s : State) (v : Word256) : (s.returning v).readData = v := rfl
@[simp] theorem returning_powerCycles (s : State) (v : Word256) : (s.returning v).powerCycles = s.powerCycles := rfl

/-! ### The next CMD write -/

@[simp] theorem beforeCommand_cmd (s : State) (w : Word32) : (s.beforeCommand w).cmd = s.cmd := rfl
@[simp] theorem beforeCommand_status (s : State) (w : Word32) : (s.beforeCommand w).status = s.status := rfl
@[simp] theorem beforeCommand_err (s : State) (w : Word32) : (s.beforeCommand w).err = s.err := rfl
@[simp] theorem beforeCommand_errInfo (s : State) (w : Word32) : (s.beforeCommand w).errInfo = s.errInfo := rfl
@[simp] theorem beforeCommand_capLen (s : State) (w : Word32) : (s.beforeCommand w).capLen = s.capLen := rfl
@[simp] theorem beforeCommand_scanPos (s : State) (w : Word32) : (s.beforeCommand w).scanPos = s.scanPos := rfl
@[simp] theorem beforeCommand_runStart (s : State) (w : Word32) : (s.beforeCommand w).runStart = s.runStart := rfl
@[simp] theorem beforeCommand_runLength (s : State) (w : Word32) : (s.beforeCommand w).runLength = s.runLength := rfl
@[simp] theorem beforeCommand_consecZeros (s : State) (w : Word32) : (s.beforeCommand w).consecZeros = s.consecZeros := rfl
@[simp] theorem beforeCommand_consecOnes (s : State) (w : Word32) : (s.beforeCommand w).consecOnes = s.consecOnes := rfl
@[simp] theorem beforeCommand_burstOffset (s : State) (w : Word32) : (s.beforeCommand w).burstOffset = s.burstOffset := rfl
@[simp] theorem beforeCommand_mdecCount (s : State) (w : Word32) : (s.beforeCommand w).mdecCount = s.mdecCount := rfl
@[simp] theorem beforeCommand_mdecAcc (s : State) (w : Word32) : (s.beforeCommand w).mdecAcc = s.mdecAcc := rfl
@[simp] theorem beforeCommand_packet (s : State) (w : Word32) : (s.beforeCommand w).packet = s.packet := rfl
@[simp] theorem beforeCommand_sliceOut (s : State) (w : Word32) : (s.beforeCommand w).sliceOut = s.sliceOut := rfl
@[simp] theorem beforeCommand_pushAcc (s : State) (w : Word32) : (s.beforeCommand w).pushAcc = s.pushAcc := rfl
@[simp] theorem beforeCommand_pushVal (s : State) (w : Word32) : (s.beforeCommand w).pushVal = s.pushVal := rfl
@[simp] theorem beforeCommand_crc (s : State) (w : Word32) : (s.beforeCommand w).crc = s.crc := rfl
@[simp] theorem beforeCommand_crcExpected (s : State) (w : Word32) : (s.beforeCommand w).crcExpected = s.crcExpected := rfl
@[simp] theorem beforeCommand_crcActual (s : State) (w : Word32) : (s.beforeCommand w).crcActual = s.crcActual := rfl
@[simp] theorem beforeCommand_agencyIn (s : State) (w : Word32) : (s.beforeCommand w).agencyIn = s.agencyIn := rfl
@[simp] theorem beforeCommand_overrideCtl (s : State) (w : Word32) : (s.beforeCommand w).overrideCtl = s.overrideCtl := rfl
@[simp] theorem beforeCommand_overrideDivider (s : State) (w : Word32) : (s.beforeCommand w).overrideDivider = s.overrideDivider := rfl
@[simp] theorem beforeCommand_divider (s : State) (w : Word32) : (s.beforeCommand w).divider = s.divider := rfl
@[simp] theorem beforeCommand_afLen (s : State) (w : Word32) : (s.beforeCommand w).afLen = s.afLen := rfl
@[simp] theorem beforeCommand_pb1Len (s : State) (w : Word32) : (s.beforeCommand w).pb1Len = s.pb1Len := rfl
@[simp] theorem beforeCommand_fields (s : State) (w : Word32) : (s.beforeCommand w).fields = s.fields := rfl
@[simp] theorem beforeCommand_inputs (s : State) (w : Word32) : (s.beforeCommand w).inputs = s.inputs := rfl
@[simp] theorem beforeCommand_cap (s : State) (w : Word32) : (s.beforeCommand w).cap = s.cap := rfl
@[simp] theorem beforeCommand_wireIn (s : State) (w : Word32) : (s.beforeCommand w).wireIn = s.wireIn := rfl
@[simp] theorem beforeCommand_capSize (s : State) (w : Word32) : (s.beforeCommand w).capSize = s.capSize := rfl
@[simp] theorem beforeCommand_host (s : State) (w : Word32) : (s.beforeCommand w).host = .writeReg 0x00 (w.setWidth 256) :: s.host := rfl
@[simp] theorem beforeCommand_readData (s : State) (w : Word32) : (s.beforeCommand w).readData = s.readData := rfl
@[simp] theorem beforeCommand_powerCycles (s : State) (w : Word32) : (s.beforeCommand w).powerCycles = s.powerCycles := rfl

/-! ### Power-on reset -/

@[simp] theorem powerOn_cmd (c : CapSize) : (State.powerOn c).cmd = 0 := rfl
@[simp] theorem powerOn_status (c : CapSize) : (State.powerOn c).status = Status.reset := rfl
@[simp] theorem powerOn_err (c : CapSize) : (State.powerOn c).err = .ok := rfl
@[simp] theorem powerOn_errInfo (c : CapSize) : (State.powerOn c).errInfo = 0 := rfl
@[simp] theorem powerOn_capLen (c : CapSize) : (State.powerOn c).capLen = 0 := rfl
@[simp] theorem powerOn_scanPos (c : CapSize) : (State.powerOn c).scanPos = 0 := rfl
@[simp] theorem powerOn_runStart (c : CapSize) : (State.powerOn c).runStart = 0 := rfl
@[simp] theorem powerOn_runLength (c : CapSize) : (State.powerOn c).runLength = 0 := rfl
@[simp] theorem powerOn_consecZeros (c : CapSize) : (State.powerOn c).consecZeros = 0 := rfl
@[simp] theorem powerOn_consecOnes (c : CapSize) : (State.powerOn c).consecOnes = 0 := rfl
@[simp] theorem powerOn_burstOffset (c : CapSize) : (State.powerOn c).burstOffset = 0 := rfl
@[simp] theorem powerOn_mdecCount (c : CapSize) : (State.powerOn c).mdecCount = 0 := rfl
@[simp] theorem powerOn_mdecAcc (c : CapSize) : (State.powerOn c).mdecAcc = 0 := rfl
@[simp] theorem powerOn_packet (c : CapSize) : (State.powerOn c).packet = 0 := rfl
@[simp] theorem powerOn_sliceOut (c : CapSize) : (State.powerOn c).sliceOut = 0 := rfl
@[simp] theorem powerOn_pushAcc (c : CapSize) : (State.powerOn c).pushAcc = 0 := rfl
@[simp] theorem powerOn_pushVal (c : CapSize) : (State.powerOn c).pushVal = 0 := rfl
@[simp] theorem powerOn_crc (c : CapSize) : (State.powerOn c).crc = 0 := rfl
@[simp] theorem powerOn_crcExpected (c : CapSize) : (State.powerOn c).crcExpected = 0 := rfl
@[simp] theorem powerOn_crcActual (c : CapSize) : (State.powerOn c).crcActual = 0 := rfl
@[simp] theorem powerOn_agencyIn (c : CapSize) : (State.powerOn c).agencyIn = 0 := rfl
@[simp] theorem powerOn_overrideCtl (c : CapSize) : (State.powerOn c).overrideCtl = 0 := rfl
@[simp] theorem powerOn_overrideDivider (c : CapSize) : (State.powerOn c).overrideDivider = 0 := rfl
@[simp] theorem powerOn_divider (c : CapSize) : (State.powerOn c).divider = 0 := rfl
@[simp] theorem powerOn_afLen (c : CapSize) : (State.powerOn c).afLen = 0 := rfl
@[simp] theorem powerOn_pb1Len (c : CapSize) : (State.powerOn c).pb1Len = 0 := rfl
@[simp] theorem powerOn_fields (c : CapSize) : (State.powerOn c).fields = FieldRegs.reset := rfl
@[simp] theorem powerOn_inputs (c : CapSize) : (State.powerOn c).inputs = InputRegs.reset := rfl
@[simp] theorem powerOn_cap (c : CapSize) : (State.powerOn c).cap = [] := rfl
@[simp] theorem powerOn_wireIn (c : CapSize) : (State.powerOn c).wireIn = Vector.replicate 32 0 := rfl
@[simp] theorem powerOn_capSize (c : CapSize) : (State.powerOn c).capSize = c := rfl
@[simp] theorem powerOn_host (c : CapSize) : (State.powerOn c).host = [] := rfl
@[simp] theorem powerOn_readData (c : CapSize) : (State.powerOn c).readData = 0 := rfl
@[simp] theorem powerOn_powerCycles (c : CapSize) : (State.powerOn c).powerCycles = 0 := rfl

/-! ### The reset input -/

@[simp] theorem powerOnReset_cmd (s : State) : (powerOnReset s).cmd = 0 := rfl
@[simp] theorem powerOnReset_status (s : State) : (powerOnReset s).status = Status.reset := rfl
@[simp] theorem powerOnReset_err (s : State) : (powerOnReset s).err = .ok := rfl
@[simp] theorem powerOnReset_errInfo (s : State) : (powerOnReset s).errInfo = 0 := rfl
@[simp] theorem powerOnReset_capLen (s : State) : (powerOnReset s).capLen = 0 := rfl
@[simp] theorem powerOnReset_scanPos (s : State) : (powerOnReset s).scanPos = 0 := rfl
@[simp] theorem powerOnReset_runStart (s : State) : (powerOnReset s).runStart = 0 := rfl
@[simp] theorem powerOnReset_runLength (s : State) : (powerOnReset s).runLength = 0 := rfl
@[simp] theorem powerOnReset_consecZeros (s : State) : (powerOnReset s).consecZeros = 0 := rfl
@[simp] theorem powerOnReset_consecOnes (s : State) : (powerOnReset s).consecOnes = 0 := rfl
@[simp] theorem powerOnReset_burstOffset (s : State) : (powerOnReset s).burstOffset = 0 := rfl
@[simp] theorem powerOnReset_mdecCount (s : State) : (powerOnReset s).mdecCount = 0 := rfl
@[simp] theorem powerOnReset_mdecAcc (s : State) : (powerOnReset s).mdecAcc = 0 := rfl
@[simp] theorem powerOnReset_packet (s : State) : (powerOnReset s).packet = 0 := rfl
@[simp] theorem powerOnReset_sliceOut (s : State) : (powerOnReset s).sliceOut = 0 := rfl
@[simp] theorem powerOnReset_pushAcc (s : State) : (powerOnReset s).pushAcc = 0 := rfl
@[simp] theorem powerOnReset_pushVal (s : State) : (powerOnReset s).pushVal = 0 := rfl
@[simp] theorem powerOnReset_crc (s : State) : (powerOnReset s).crc = 0 := rfl
@[simp] theorem powerOnReset_crcExpected (s : State) : (powerOnReset s).crcExpected = 0 := rfl
@[simp] theorem powerOnReset_crcActual (s : State) : (powerOnReset s).crcActual = 0 := rfl
@[simp] theorem powerOnReset_agencyIn (s : State) : (powerOnReset s).agencyIn = 0 := rfl
@[simp] theorem powerOnReset_overrideCtl (s : State) : (powerOnReset s).overrideCtl = 0 := rfl
@[simp] theorem powerOnReset_overrideDivider (s : State) : (powerOnReset s).overrideDivider = 0 := rfl
@[simp] theorem powerOnReset_divider (s : State) : (powerOnReset s).divider = 0 := rfl
@[simp] theorem powerOnReset_afLen (s : State) : (powerOnReset s).afLen = 0 := rfl
@[simp] theorem powerOnReset_pb1Len (s : State) : (powerOnReset s).pb1Len = 0 := rfl
@[simp] theorem powerOnReset_fields (s : State) : (powerOnReset s).fields = FieldRegs.reset := rfl
@[simp] theorem powerOnReset_inputs (s : State) : (powerOnReset s).inputs = InputRegs.reset := rfl
@[simp] theorem powerOnReset_cap (s : State) : (powerOnReset s).cap = [] := rfl
@[simp] theorem powerOnReset_wireIn (s : State) : (powerOnReset s).wireIn = Vector.replicate 32 0 := rfl
@[simp] theorem powerOnReset_capSize (s : State) : (powerOnReset s).capSize = s.capSize := rfl
@[simp] theorem powerOnReset_host (s : State) : (powerOnReset s).host = s.host := rfl
@[simp] theorem powerOnReset_readData (s : State) : (powerOnReset s).readData = s.readData := rfl
@[simp] theorem powerOnReset_powerCycles (s : State) : (powerOnReset s).powerCycles = s.powerCycles + 1 := rfl

/-! ### The derived flags -/

@[simp] theorem dropDerived_pktValid (st : Status) : st.dropDerived.pktValid = st.pktValid := rfl
@[simp] theorem dropDerived_layoutValid (st : Status) : st.dropDerived.layoutValid = st.layoutValid := rfl
@[simp] theorem dropDerived_layoutKnown (st : Status) : st.dropDerived.layoutKnown = st.layoutKnown := rfl
@[simp] theorem dropDerived_fieldsValid (st : Status) : st.dropDerived.fieldsValid = false := rfl
@[simp] theorem dropDerived_fieldsSplit (st : Status) : st.dropDerived.fieldsSplit = false := rfl
@[simp] theorem dropDerived_crcValid (st : Status) : st.dropDerived.crcValid = false := rfl
@[simp] theorem dropDerived_crcMatch (st : Status) : st.dropDerived.crcMatch = false := rfl
@[simp] theorem dropDerived_scanState (st : Status) : st.dropDerived.scanState = st.scanState := rfl

/-! ### The reset values of STATUS -/

@[simp] theorem statusReset_pktValid : Status.reset.pktValid = false := rfl
@[simp] theorem statusReset_layoutValid : Status.reset.layoutValid = false := rfl
@[simp] theorem statusReset_layoutKnown : Status.reset.layoutKnown = false := rfl
@[simp] theorem statusReset_fieldsValid : Status.reset.fieldsValid = false := rfl
@[simp] theorem statusReset_fieldsSplit : Status.reset.fieldsSplit = false := rfl
@[simp] theorem statusReset_crcValid : Status.reset.crcValid = false := rfl
@[simp] theorem statusReset_crcMatch : Status.reset.crcMatch = false := rfl
@[simp] theorem statusReset_scanState : Status.reset.scanState = .notStarted := rfl

end Sys2Proof.Machine
end

