-- ==== Sys2Proof/Laws/Ops.lean ====
section
/-! SUPPORT. What each shared operation can do, said once: how a command ends, the parts of a compound command, the
verification, the resolver, one scan step, one bit step, and the loops (spec/40_control.md R110, R113). -/

namespace Sys2Proof.Machine

/-! ### The end of a command -/

/-- A command never refuses. -/
theorem conclude_not_refused (r : CmdResult) (x : Refusal) : conclude r ≠ .refused x := by
  cases r <;> simp [conclude]

/-- A command stops the machine exactly when its pseudocode faulted. -/
theorem conclude_fault_iff (r : CmdResult) (f : Fault) : conclude r = .fault f ↔ r = .faulted f := by
  cases r <;> simp [conclude]

/-- A command's next state is that of its pseudocode with the outcome in ERR and ERR_INFO. -/
theorem conclude_next_iff (r : CmdResult) (t : State) :
    conclude r = .next t ↔
      (∃ s, r = .done s ∧ t = s.withOutcome .ok 0) ∨
      (∃ e info s, r = .reported e info s ∧ t = s.withOutcome e info) ∨
      (∃ e info s, r = .raised e info s ∧ t = s.withOutcome e info) := by
  cases r with
  | done s => simp [conclude, eq_comm]
  | reported e info s =>
    constructor
    · intro h
      exact .inr (.inl ⟨e, info, s, rfl, by simpa [conclude, eq_comm] using h⟩)
    · rintro (⟨_, h, _⟩ | ⟨_, _, _, h, rfl⟩ | ⟨_, _, _, h, _⟩) <;> cases h
      rfl
  | raised e info s =>
    constructor
    · intro h
      exact .inr (.inr ⟨e, info, s, rfl, by simpa [conclude, eq_comm] using h⟩)
    · rintro (⟨_, h, _⟩ | ⟨_, _, _, h, _⟩ | ⟨_, _, _, h, rfl⟩) <;> cases h
      rfl
  | faulted f => simp [conclude]

@[simp] theorem conclude_done (s : State) : conclude (.done s) = .next (s.withOutcome .ok 0) := rfl

@[simp] theorem conclude_reported (e : Err) (info : Word32) (s : State) :
    conclude (.reported e info s) = .next (s.withOutcome e info) := rfl

@[simp] theorem conclude_raised (e : Err) (info : Word32) (s : State) :
    conclude (.raised e info s) = .next (s.withOutcome e info) := rfl

@[simp] theorem conclude_faulted (f : Fault) : conclude (.faulted f) = .fault f := rfl

/-! ### Parts in a row -/

@[simp] theorem andThen_done (s : State) (k : State → CmdResult) : (CmdResult.done s).andThen k = k s := rfl

@[simp] theorem andThen_raised (e : Err) (info : Word32) (s : State) (k : State → CmdResult) :
    (CmdResult.raised e info s).andThen k = .raised e info s := rfl

@[simp] theorem andThen_faulted (f : Fault) (k : State → CmdResult) :
    (CmdResult.faulted f).andThen k = .faulted f := rfl

/-- The end state of a result, none when the machine stopped. -/
def CmdResult.state? : CmdResult → Option State
  | .done s => some s
  | .reported _ _ s => some s
  | .raised _ _ s => some s
  | .faulted _ => none

/-- A property holds of the end state, if there is one. -/
def CmdResult.Ends (P : State → Prop) (r : CmdResult) : Prop := ∀ s, r.state? = some s → P s

@[simp] theorem ends_done (P : State → Prop) (s : State) : (CmdResult.done s).Ends P ↔ P s := by
  simp [CmdResult.Ends, CmdResult.state?]

@[simp] theorem ends_reported (P : State → Prop) (e : Err) (info : Word32) (s : State) :
    (CmdResult.reported e info s).Ends P ↔ P s := by simp [CmdResult.Ends, CmdResult.state?]

@[simp] theorem ends_raised (P : State → Prop) (e : Err) (info : Word32) (s : State) :
    (CmdResult.raised e info s).Ends P ↔ P s := by simp [CmdResult.Ends, CmdResult.state?]

@[simp] theorem ends_faulted (P : State → Prop) (f : Fault) : (CmdResult.faulted f).Ends P ↔ True := by
  simp [CmdResult.Ends, CmdResult.state?]

/-- What holds at the end of the first part and is kept by the second holds at the end of both. -/
theorem ends_andThen {P Q : State → Prop} {r : CmdResult} {k : State → CmdResult} (hr : r.Ends P)
    (hQ : ∀ s, P s → Q s) (hk : ∀ s, P s → (k s).Ends Q) : (r.andThen k).Ends Q := by
  cases r with
  | done s => exact hk s (by simpa using hr)
  | raised e info s => simpa using hQ s (by simpa using hr)
  | faulted f => simp
  | reported e info s =>
    have h := hk s (by simpa using hr)
    cases hs : k s <;> simp_all [CmdResult.andThen]

/-- The next state of a command has a property of the pseudocode's end state that ERR and ERR_INFO do not touch. -/
theorem next_of_ends {P : State → Prop} {r : CmdResult} {t : State} (h : r.Ends P) (ht : conclude r = .next t) :
    ∃ s e info, t = s.withOutcome e info ∧ P s := by
  rcases (conclude_next_iff r t).1 ht with ⟨s, rfl, rfl⟩ | ⟨e, info, s, rfl, rfl⟩ | ⟨e, info, s, rfl, rfl⟩
  · exact ⟨s, _, _, rfl, by simpa using h⟩
  · exact ⟨s, _, _, rfl, by simpa using h⟩
  · exact ⟨s, _, _, rfl, by simpa using h⟩

/-! ### Preconditions -/

@[simp] theorem needPacket_of_valid {s : State} (h : s.status.pktValid = true) (body : State → CmdResult) :
    needPacket s body = body s := by simp [needPacket, h]

@[simp] theorem needPacket_of_not_valid {s : State} (h : s.status.pktValid = false) (body : State → CmdResult) :
    needPacket s body = .raised .notReady 1 s := by simp [needPacket, h]

theorem needScanning_of_scanning {s : State} (h : s.status.scanState.scanning = true) (body : State → CmdResult) :
    needScanning s body = body s := by simp [needScanning, h]

theorem scanning_iff (x : ScanState) : x.scanning = true ↔ x = .idle ∨ x = .inBurst := by
  cases x <;> simp [ScanState.scanning]

theorem needDecoding_of_ready {s : State} (h : s.status.scanState = .accepted) (hc : s.mdecCount.toNat ≠ 256)
    (body : State → CmdResult) : needDecoding s body = body s := by simp [needDecoding, h, hc, pktBits]

/-! ### The verification -/

/-- What a verification writes (42_crc16.md R147). -/
def verified (s : State) : State :=
  { s with crcExpected := computeCrc s.packet, crcActual := storedCrc s.packet,
           status := { s.status with crcValid := true, crcMatch := computeCrc s.packet == storedCrc s.packet } }

/-- A verification ends in the written state, reported when the two CRCs differ. -/
theorem verifyPacket_cases (s : State) :
    (computeCrc s.packet = storedCrc s.packet ∧ verifyPacket s = .done (verified s)) ∨
    (computeCrc s.packet ≠ storedCrc s.packet ∧
      verifyPacket s = .reported .crcMismatch (mismatchInfo (computeCrc s.packet) (storedCrc s.packet)) (verified s)) := by
  by_cases h : computeCrc s.packet = storedCrc s.packet
  · exact .inl ⟨h, by simp [verifyPacket, h, verified]⟩
  · exact .inr ⟨h, by simp [verifyPacket, h, verified]⟩

/-- CrcMismatch's detail holds expected above actual (60_exceptions.md R264). -/
theorem mismatchInfo_toNat (expected actual : BitVec 16) :
    (mismatchInfo expected actual).toNat = expected.toNat * 2 ^ 16 + actual.toNat := by
  have he := expected.isLt
  have ha := actual.isLt
  simp only [mismatchInfo, BitVec.toNat_or, BitVec.toNat_shiftLeft, BitVec.toNat_setWidth]
  rw [Nat.mod_eq_of_lt (show expected.toNat < 2 ^ 32 by omega), Nat.mod_eq_of_lt (show actual.toNat < 2 ^ 32 by omega),
    Nat.mod_eq_of_lt (by rw [Nat.shiftLeft_eq]; omega), ← Nat.shiftLeft_add_eq_or_of_lt (by omega),
    Nat.shiftLeft_eq]

/-! ### The resolver -/

/-- ApplyResolve raises InvalidDivider with the layout invalidated, or writes a known or the unknown layout. -/
theorem applyResolve_cases (a : Nat) (s : State) :
    (∃ d, resolveLayout a s.override = .error d ∧ legalDivider d = false ∧ d < 65536 ∧
        applyResolve a s = .raised .invalidDivider (BitVec.ofNat 32 d) (writeLayout false false 0 0 0 s)) ∨
    (∃ d, resolveLayout a s.override = .ok (.known d) ∧ legalDivider d = true ∧
        applyResolve a s = .done (writeLayout true true d (agencyFixedLen d) (pb1LenOf d) s)) ∨
    (resolveLayout a s.override = .ok .unknown ∧ applyResolve a s = .done (writeLayout true false 0 0 0 s)) := by
  unfold applyResolve resolveLayout
  by_cases hk : knownAgency a = true
  · exact .inr (.inl ⟨64, by simp [hk, knownDivider], by decide, by simp [hk, knownDivider]⟩)
  · cases ho : s.override with
    | none => exact .inr (.inr (by simp [hk]))
    | some d =>
      have hd : d < 65536 := by
        unfold State.override at ho
        split at ho
        · cases ho; exact s.overrideDivider.isLt
        · cases ho
      by_cases hl : legalDivider d = true
      · exact .inr (.inl ⟨d, by simp [hk, hl], hl, by simp [hk, hl]⟩)
      · exact .inl ⟨d, by simp [hk, hl], by simpa using hl, hd, by simp [hk, hl]⟩

/-! ### The scan -/

/-- One scan step ends the scan at the capture's end, stops on a byte the core cannot read, or takes the sample. -/
theorem scanOnce_cases (s : State) :
    (s.capLen.toNat ≤ s.scanPos.toNat ∧
      scanOnce s = .raised .burstNotFound 0 { s with status := { s.status with scanState := .notFound } }) ∨
    (s.scanPos.toNat < s.capLen.toNat ∧ ∃ f, capRead s s.scanPos.toNat = .error f ∧ scanOnce s = .faulted f) ∨
    (s.scanPos.toNat < s.capLen.toNat ∧ ∃ b, capRead s s.scanPos.toNat = .ok b ∧
      scanOnce s = takeSample s.scanPos (sample b) { s with scanPos := s.scanPos + 1 }) := by
  unfold scanOnce
  by_cases h : s.capLen.toNat ≤ s.scanPos.toNat
  · exact .inl ⟨h, by simp [h]⟩
  · have hlt : s.scanPos.toNat < s.capLen.toNat := by omega
    cases hr : capRead s s.scanPos.toNat with
    | error f => exact .inr (.inl ⟨hlt, f, rfl, by simp [h]⟩)
    | ok b => exact .inr (.inr ⟨hlt, b, rfl, by simp [h]⟩)

/-- SCAN_POS + 1 does not wrap below CAP_LEN. -/
theorem scanPos_succ_toNat {s : State} (h : s.scanPos.toNat < s.capLen.toNat) :
    (s.scanPos + 1).toNat = s.scanPos.toNat + 1 := by
  have := s.capLen.isLt
  simp [BitVec.toNat_add]; omega

@[simp] theorem scanLoop_zero (s : State) : scanLoop 0 s = .done s := rfl

theorem scanLoop_succ (n : Nat) (s : State) :
    scanLoop (n + 1) s =
      if s.status.scanState.scanning then (scanOnce s).andThen (scanLoop n) else .done s := rfl

/-- What every scan step keeps, the loop keeps. -/
theorem scanLoop_ends {P : State → Prop}
    (hstep : ∀ s, P s → s.status.scanState.scanning = true → (scanOnce s).Ends P) :
    ∀ (n : Nat) (s : State), P s → (scanLoop n s).Ends P
  | 0, s, h => by simpa using h
  | n + 1, s, h => by
    rw [scanLoop_succ]
    split
    · exact ends_andThen (hstep s h ‹_›) (fun _ h => h) (fun t ht => scanLoop_ends hstep n t ht)
    · simpa using h

/-! ### The bit decoder -/

/-- The state after one decoded bit (43_burst_locator.md R169). -/
def bitTaken (one : Bool) (s : State) : State :=
  let acc := (s.mdecAcc <<< 1) ||| (BitVec.ofBool one).setWidth 256
  let s' := { s with mdecAcc := acc, mdecCount := s.mdecCount + 1 }
  if s.mdecCount.toNat + 1 = 256 then writePacket acc s' else s'

/-- One bit step stops on a byte the core cannot read, or takes the bit. -/
theorem mdecOnce_cases (s : State) :
    (∃ f, capRead s (s.burstOffset.toNat + 2 * s.mdecCount.toNat) = .error f ∧ mdecOnce s = .faulted f) ∨
    (∃ b, capRead s (s.burstOffset.toNat + 2 * s.mdecCount.toNat) = .ok b ∧
      mdecOnce s = .done (bitTaken (sample b) s)) := by
  unfold mdecOnce
  cases hr : capRead s (s.burstOffset.toNat + 2 * s.mdecCount.toNat) with
  | error f => exact .inl ⟨f, rfl, by simp [samplesPerBit, hr]⟩
  | ok b => exact .inr ⟨b, rfl, by simp [samplesPerBit, hr, bitTaken, pktBits]⟩

@[simp] theorem mdecLoop_zero (s : State) : mdecLoop 0 s = .done s := rfl

theorem mdecLoop_succ (n : Nat) (s : State) :
    mdecLoop (n + 1) s = if s.mdecCount.toNat < 256 then (mdecOnce s).andThen (mdecLoop n) else .done s := rfl

/-- What every bit step keeps, the loop keeps. -/
theorem mdecLoop_ends {P : State → Prop}
    (hstep : ∀ s, P s → s.mdecCount.toNat < 256 → (mdecOnce s).Ends P) :
    ∀ (n : Nat) (s : State), P s → (mdecLoop n s).Ends P
  | 0, s, h => by simpa using h
  | n + 1, s, h => by
    rw [mdecLoop_succ]
    split
    · exact ends_andThen (hstep s h ‹_›) (fun _ h => h) (fun t ht => mdecLoop_ends hstep n t ht)
    · simpa using h

/-- A bit step moves the count on. -/
theorem bitTaken_mdecCount (one : Bool) (s : State) : (bitTaken one s).mdecCount = s.mdecCount + 1 := by
  unfold bitTaken; dsimp only; split <;> rfl

/-! ### The step -/

/-- A step with no access to come changes nothing (10_state.md R20). -/
theorem step_of_no_access {s : State} (h : s.host = []) : step s = .next s := by simp [step, hostStep, h]

/-- A step performs the host's next access. -/
theorem step_of_access {s : State} {a : HostAccess} {rest : List HostAccess} (h : s.host = a :: rest) :
    step s = hostAccess a { s with host := rest } := by simp [step, hostStep, h]

/-- The register index 0x00 is CMD. -/
theorem regAt_zero : regAt 0x00 = some .cmd := by decide

/-- A write to CMD runs its word. -/
theorem hostWriteReg_cmd (v : Word256) (s : State) : hostWriteReg 0x00 v s = writeCmd v s := by
  unfold hostWriteReg
  rw [regAt_zero]

end Sys2Proof.Machine
end

