-- ==== Sys2Proof/Laws/Exec.lean ====
section
/-! SUPPORT. Every command as its pseudocode followed by the one end that all commands share, so that a fact about
`conclude` is a fact about `exec` (spec/40_control.md R110), and what the longer bodies can do. -/

namespace Sys2Proof.Machine

/-- The pseudocode of each command (the rule that 30_encoding.md R93 names for it). -/
def commandResult : Instr → State → CmdResult
  | .nop, s => .done s
  | .softReset, s => .done (softResetState s)
  | .loadShort, s => .done (writePacket (fromBytes s.wireInBytes) s)
  | .slice shift width, s =>
    needPacket s fun s => .done { s with sliceOut := BitVec.ofNat 256 (slice s.packet shift.toNat width.toNat) }
  | .pushClear, s => .done { s with pushAcc := 0 }
  | .push width, s =>
    if fits s.pushVal width.toNat then .done { s with pushAcc := pushField s.pushAcc s.pushVal width.toNat }
    else .raised .fieldOutOfRange 0x8000 s
  | .crcClear, s => .done { s with crc := crcInit }
  | .crcByte a, s => .done { s with crc := crcUpdate s.crc (a.setWidth 8) }
  | .crcCompute, s => needPacket s fun s => .done { s with crcExpected := computeCrc s.packet }
  | .crcVerify, s => needPacket s verifyPacket
  | .scanInit, s => startScan s
  | .scanStep, s => needScanning s scanOnce
  | .scanRun, s => needScanning s scanAll
  | .mdecStep, s => needDecoding s mdecOnce
  | .mdecRun, s => needDecoding s mdecAll
  | .locate, s => ((startScan s).andThen scanAll).andThen mdecAll
  | .resolve, s => applyResolve s.agencyIn.toNat s
  | .resolvePkt, s => needPacket s fun s => applyResolve (packetAgency s.packet) s
  | .decode, s =>
    if noPacketBit s.status ||| noLayoutBit s.status ≠ 0 then
      .raised .notReady (noPacketBit s.status ||| noLayoutBit s.status) s
    else decodeBody s
  | .encode, s => encodeBody s
  | .dissect, s => needPacket s fun s => (applyResolve (packetAgency s.packet) s).andThen decodeBody
  | .craft, s => (applyResolve s.inputs.agencyId.toNat s).andThen encodeBody

/-- A command is its pseudocode and the shared end. -/
theorem exec_eq_conclude (i : Instr) (s : State) : exec i s = conclude (commandResult i s) := by cases i <;> rfl

/-- No command refuses. -/
theorem exec_not_refused (i : Instr) (s : State) (x : Refusal) : exec i s ≠ .refused x := by
  rw [exec_eq_conclude]
  exact conclude_not_refused _ _

/-- A command's next state has a property of its pseudocode's end state, up to ERR and ERR_INFO. -/
theorem exec_next_of_ends {P : State → Prop} {i : Instr} {s t : State} (h : (commandResult i s).Ends P)
    (ht : exec i s = .next t) : ∃ u e info, t = u.withOutcome e info ∧ P u :=
  next_of_ends h (exec_eq_conclude i s ▸ ht)

/-- A property of two results joined. -/
theorem ends_and {P Q : State → Prop} {r : CmdResult} (h : r.Ends P) (h' : r.Ends Q) : r.Ends fun s => P s ∧ Q s :=
  fun s hs => ⟨h s hs, h' s hs⟩

/-- A weaker property of the same end. -/
theorem ends_mono {P Q : State → Prop} {r : CmdResult} (h : r.Ends P) (hq : ∀ t, P t → Q t) : r.Ends Q :=
  fun t ht => hq t (h t ht)

/-- A command that needs a packet ends in what its body ends in, or where it began. -/
theorem needPacket_ends {P : State → Prop} {s : State} {body : State → CmdResult} (h : P s)
    (hb : s.status.pktValid = true → (body s).Ends P) : (needPacket s body).Ends P := by
  unfold needPacket
  split
  · exact hb ‹_›
  · simpa using h

/-- A command that needs a scan ends in what its body ends in, or where it began. -/
theorem needScanning_ends {P : State → Prop} {s : State} {body : State → CmdResult} (h : P s)
    (hb : s.status.scanState.scanning = true → (body s).Ends P) : (needScanning s body).Ends P := by
  unfold needScanning
  split
  · exact hb ‹_›
  · simpa using h

/-- A command that needs an accepted burst ends in what its body ends in, or where it began. -/
theorem needDecoding_ends {P : State → Prop} {s : State} {body : State → CmdResult} (h : P s)
    (hb : s.status.scanState = .accepted → s.mdecCount.toNat ≠ 256 → (body s).Ends P) :
    (needDecoding s body).Ends P := by
  unfold needDecoding
  split
  · simpa using h
  · split
    · simpa using h
    · exact hb (by simp_all) (by simpa [pktBits] using ‹¬ s.mdecCount.toNat = pktBits›)

/-- SCAN_INIT's body ends NotStarted with CaptureTooShort, or Idle. -/
theorem startScan_cases (s : State) :
    (s.capLen.toNat < 512 ∧ startScan s = .raised .captureTooShort s.capLen
      { scanCleared s with status := { (scanCleared s).status with scanState := .notStarted } }) ∨
    (512 ≤ s.capLen.toNat ∧ startScan s = .done
      { scanCleared s with status := { (scanCleared s).status with scanState := .idle } }) := by
  unfold startScan
  by_cases h : s.capLen.toNat < 512
  · exact .inl ⟨h, by simp [h, minCapture, scanCleared]⟩
  · exact .inr ⟨by omega, by simp [h, minCapture, scanCleared]⟩

/-- ENCODE's body raises with nothing changed, or writes the packet. -/
theorem encodeBody_cases (s : State) :
    (s.status.layoutValid = false ∧ encodeBody s = .raised .notReady 2 s) ∨
    (s.status.layoutValid = true ∧ s.status.layoutKnown = false ∧ encodeBody s = .raised .layoutUnknown 0 s) ∨
    (s.status.layoutValid = true ∧ s.status.layoutKnown = true ∧
      ((∃ bad, encodePacket s.inputs s.divider.toNat = .error bad ∧
          encodeBody s = .raised .fieldOutOfRange (BitVec.ofNat 32 bad) s) ∨
        ∃ v, encodePacket s.inputs s.divider.toNat = .ok v ∧ encodeBody s = .done (writePacket v s))) := by
  unfold encodeBody
  cases hv : s.status.layoutValid with
  | false => exact .inl (by simp)
  | true =>
    cases hk : s.status.layoutKnown with
    | false => exact .inr (.inl (by simp))
    | true =>
      refine .inr (.inr ⟨rfl, rfl, ?_⟩)
      cases he : encodePacket s.inputs s.divider.toNat with
      | error bad => exact .inl ⟨bad, rfl, by simp⟩
      | ok v => exact .inr ⟨v, rfl, by simp⟩

end Sys2Proof.Machine
end

