-- ==== Sys2Proof/Laws/PerInstr.lean ====
section
/-! SUPPORT. The family EncodeFields: the encoder puts every field of a command where spec/30_encoding.md R90 has it. -/

namespace Sys2Proof.Laws

/-- The word of a command carries its opcode, its operands and a zero RSV (30_encoding.md R90, R93). -/
def EncodeFields.Statement (i : Instr) : Prop :=
  fieldOp (encode i) = i.opcode ∧ fieldA (encode i) = i.operandA ∧ fieldB (encode i) = i.operandB ∧
    fieldRsv (encode i) = 0

/-- Every word of `commandWord` does so, so every command's word does. -/
theorem encode_fields (i : Instr) : EncodeFields.Statement i :=
  ⟨fieldOp_commandWord _ _ _, fieldA_commandWord _ _ _, fieldB_commandWord _ _ _, fieldRsv_commandWord _ _ _⟩

theorem EncodeFields.nop : EncodeFields.Statement .nop := encode_fields _
theorem EncodeFields.softReset : EncodeFields.Statement .softReset := encode_fields _
theorem EncodeFields.loadShort : EncodeFields.Statement .loadShort := encode_fields _
theorem EncodeFields.slice (x y : BitVec 9) : EncodeFields.Statement (.slice x y) := encode_fields _
theorem EncodeFields.pushClear : EncodeFields.Statement .pushClear := encode_fields _
theorem EncodeFields.push (x : BitVec 9) : EncodeFields.Statement (.push x) := encode_fields _
theorem EncodeFields.crcClear : EncodeFields.Statement .crcClear := encode_fields _
theorem EncodeFields.crcByte (x : BitVec 9) : EncodeFields.Statement (.crcByte x) := encode_fields _
theorem EncodeFields.crcCompute : EncodeFields.Statement .crcCompute := encode_fields _
theorem EncodeFields.crcVerify : EncodeFields.Statement .crcVerify := encode_fields _
theorem EncodeFields.scanInit : EncodeFields.Statement .scanInit := encode_fields _
theorem EncodeFields.scanStep : EncodeFields.Statement .scanStep := encode_fields _
theorem EncodeFields.scanRun : EncodeFields.Statement .scanRun := encode_fields _
theorem EncodeFields.mdecStep : EncodeFields.Statement .mdecStep := encode_fields _
theorem EncodeFields.mdecRun : EncodeFields.Statement .mdecRun := encode_fields _
theorem EncodeFields.locate : EncodeFields.Statement .locate := encode_fields _
theorem EncodeFields.resolve : EncodeFields.Statement .resolve := encode_fields _
theorem EncodeFields.resolvePkt : EncodeFields.Statement .resolvePkt := encode_fields _
theorem EncodeFields.decode : EncodeFields.Statement .decode := encode_fields _
theorem EncodeFields.encode : EncodeFields.Statement .encode := encode_fields _
theorem EncodeFields.dissect : EncodeFields.Statement .dissect := encode_fields _
theorem EncodeFields.craft : EncodeFields.Statement .craft := encode_fields _

end Sys2Proof.Laws
end

