-- ==== Sys2Proof/Machine/Assembler.lean ====
section
/-! DEFINITION. The host-program syntax and the pseudo-instructions, as lists of host accesses
(spec/30_encoding.md R95, R96; log entry 19). -/

namespace Sys2Proof.Machine

/-! ### Host accesses by name -/

/-- The CMD write of a command: its word by 30_encoding.md R90. -/
def cmdAccess (i : Instr) : HostAccess := .writeReg 0x00 ((encode i).setWidth 256)

/-- `WR register, value` for a named register (30_encoding.md R95). -/
def wrAccess (r : RegName) (v : Word256) : HostAccess := .writeReg (BitVec.ofNat 6 (regRow r).index) v

/-! ### Pseudo-instructions -/

/-- The pseudo-instructions (30_encoding.md R96). -/
inductive Pseudo where
  | scan
  | crcBytes (bytes : List Byte)
  | pushImm (width : BitVec 9) (value : Word256)
  | getHeader
  | getTagType
  | getAppId
  | getGroupId
  | getAgencyId
  | getSerial
  | getCombined
  | getHov
  | getPb2
  | getCrc
  | getAgencyFixed (divider : Nat)
  | getPb1 (divider : Nat)
deriving DecidableEq, Repr

/-- The commands and accesses a pseudo-instruction stands for (30_encoding.md R96). -/
def Pseudo.expand : Pseudo → List HostAccess
  | .scan => [cmdAccess .scanInit, cmdAccess .scanRun]
  | .crcBytes bytes => cmdAccess .crcClear :: bytes.map fun b => cmdAccess (.crcByte (b.setWidth 9))
  | .pushImm width value => [wrAccess .pushVal value, cmdAccess (.push width)]
  | .getHeader => [cmdAccess (.slice 253 3)]
  | .getTagType => [cmdAccess (.slice 250 3)]
  | .getAppId => [cmdAccess (.slice 247 3)]
  | .getGroupId => [cmdAccess (.slice 240 7)]
  | .getAgencyId => [cmdAccess (.slice 233 7)]
  | .getSerial => [cmdAccess (.slice 209 24)]
  | .getCombined => [cmdAccess (.slice 64 145)]
  | .getHov => [cmdAccess (.slice 56 8)]
  | .getPb2 => [cmdAccess (.slice 16 40)]
  | .getCrc => [cmdAccess (.slice 0 16)]
  | .getAgencyFixed d => [cmdAccess (.slice (BitVec.ofNat 9 (256 - d)) (BitVec.ofNat 9 (agencyFixedLen d)))]
  | .getPb1 d => [cmdAccess (.slice 64 (BitVec.ofNat 9 (pb1LenOf d)))]

/-! ### Text -/

/-- Why a line is refused (log entry 19). -/
inductive AsmError where
  /-- The first word names no form of R95 and R96 that takes this many operands. -/
  | unknownWord
  /-- A number of operands that no form takes, or operands where the form takes none, or none where it takes some. -/
  | wrongOperands
  /-- An operand is no number of R95. -/
  | notANumber
  /-- An operand is no register name of 10_state.md R22. -/
  | unknownRegister
  /-- A number is above what its place holds. -/
  | outOfRange
  /-- The word the command would have is illegal by R92. -/
  | illegalWord
  /-- A GET form's divider is not legal (R96). -/
  | illegalDivider
deriving DecidableEq, Repr

/-- The characters of a line before a comment (30_encoding.md R95). -/
def beforeComment (line : List Char) : List Char := line.takeWhile (· != ';')

/-- The parts of a text between commas, without spaces. -/
def commaParts : List Char → List (List Char)
  | [] => [[]]
  | c :: cs =>
    match commaParts cs with
    | [] => [[c]]
    | part :: parts =>
      if c = ',' then [] :: part :: parts
      else if c = ' ' then part :: parts
      else (c :: part) :: parts

/-- The first word of a line and its operands, none on an empty line. -/
def lineParts (line : List Char) : Option (String × List (List Char)) :=
  match (beforeComment line).dropWhile (· == ' ') with
  | [] => none
  | text =>
    let operands := (text.dropWhile (· != ' ')).dropWhile (· == ' ')
    some (String.ofList (text.takeWhile (· != ' ')), if operands.isEmpty then [] else commaParts operands)

/-- The value of a digit, hexadecimal ones included. -/
def digitValue (c : Char) : Option Nat :=
  if '0' ≤ c ∧ c ≤ '9' then some (c.toNat - '0'.toNat)
  else if 'a' ≤ c ∧ c ≤ 'f' then some (c.toNat - 'a'.toNat + 10)
  else if 'A' ≤ c ∧ c ≤ 'F' then some (c.toNat - 'A'.toNat + 10)
  else none

/-- The number that digits of a base write, `acc` being what stands before them. -/
def digitsValue (base : Nat) : Nat → List Char → Option Nat
  | acc, [] => some acc
  | acc, c :: cs =>
    match digitValue c with
    | some d => if d < base then digitsValue base (base * acc + d) cs else none
    | none => none

/-- A number: decimal, or hexadecimal with the prefix 0x (30_encoding.md R95). -/
def parseNumber (text : List Char) : Except AsmError Nat :=
  let value := match text with
    | [] => none
    | ['0', 'x'] => none
    | '0' :: 'x' :: digits => digitsValue 16 0 digits
    | digits => digitsValue 10 0 digits
  match value with
  | some n => .ok n
  | none => .error .notANumber

/-- A number below a bound. -/
def parseBelow (bound : Nat) (text : List Char) : Except AsmError Nat := do
  let n ← parseNumber text
  if n < bound then .ok n else .error .outOfRange

/-- A register by its name (10_state.md R22). -/
def parseRegister (text : List Char) : Except AsmError RegName :=
  match allRegs.find? fun r => (regRow r).name == String.ofList text with
  | some r => .ok r
  | none => .error .unknownRegister

/-- A legal divider (30_encoding.md R96, 44_layout_resolver.md R201). -/
def parseDivider (text : List Char) : Except AsmError Nat := do
  let d ← parseNumber text
  if legalDivider d then .ok d else .error .illegalDivider

/-- Numbers below a bound. -/
def parseAllBelow (bound : Nat) : List (List Char) → Except AsmError (List Nat)
  | [] => .ok []
  | text :: rest => do
    let n ← parseBelow bound text
    let ns ← parseAllBelow bound rest
    .ok (n :: ns)

/-- The commands without operands, by their mnemonics (30_encoding.md R93). -/
def plainCommands : List (String × Instr) :=
  [("NOP", .nop), ("SOFT_RESET", .softReset), ("LOAD_SHORT", .loadShort), ("PUSH_CLEAR", .pushClear),
   ("CRC_CLEAR", .crcClear), ("CRC_COMPUTE", .crcCompute), ("CRC_VERIFY", .crcVerify), ("SCAN_INIT", .scanInit),
   ("SCAN_STEP", .scanStep), ("SCAN_RUN", .scanRun), ("MDEC_STEP", .mdecStep), ("MDEC_RUN", .mdecRun),
   ("LOCATE", .locate), ("RESOLVE", .resolve), ("RESOLVE_PKT", .resolvePkt), ("DECODE", .decode),
   ("ENCODE", .encode), ("DISSECT", .dissect), ("CRAFT", .craft)]

/-- The pseudo-instructions without operands (30_encoding.md R96). -/
def plainPseudos : List (String × Pseudo) :=
  [("SCAN", .scan), ("GET_HEADER", .getHeader), ("GET_TAG_TYPE", .getTagType), ("GET_APP_ID", .getAppId),
   ("GET_GROUP_ID", .getGroupId), ("GET_AGENCY_ID", .getAgencyId), ("GET_SERIAL", .getSerial),
   ("GET_COMBINED", .getCombined), ("GET_HOV", .getHov), ("GET_PB2", .getPb2), ("GET_CRC", .getCrc)]

/-- A command's CMD write, after the legality check of 30_encoding.md R92 (R95). -/
def assembleCommand (i : Instr) : Except AsmError (List HostAccess) :=
  match decode (encode i) with
  | .ok _ => .ok [cmdAccess i]
  | .error _ => .error .illegalWord

/-- A line with one operand (30_encoding.md R95, R96). -/
def assembleOne (word : String) (x : List Char) : Except AsmError (List HostAccess) :=
  if word == "PUSH" then do
    assembleCommand (.push (BitVec.ofNat 9 (← parseBelow 512 x)))
  else if word == "CRC_BYTE" then do
    assembleCommand (.crcByte (BitVec.ofNat 9 (← parseBelow 512 x)))
  else if word == "RD" then do
    .ok [.readReg (BitVec.ofNat 6 (regRow (← parseRegister x)).index)]
  else if word == "RDWIRE" then do
    .ok [.readWireOut (← parseNumber x)]
  else if word == "RDCAP" then do
    .ok [.readCap (← parseNumber x)]
  else if word == "GET_AGENCY_FIXED" then do
    .ok (Pseudo.getAgencyFixed (← parseDivider x)).expand
  else if word == "GET_PB1" then do
    .ok (Pseudo.getPb1 (← parseDivider x)).expand
  else .error .unknownWord

/-- A line with two operands (30_encoding.md R95, R96). -/
def assembleTwo (word : String) (x y : List Char) : Except AsmError (List HostAccess) :=
  if word == "SLICE" then do
    let shift ← parseBelow 512 x
    let width ← parseBelow 512 y
    assembleCommand (.slice (BitVec.ofNat 9 shift) (BitVec.ofNat 9 width))
  else if word == "WR" then do
    let r ← parseRegister x
    let v ← parseBelow (2 ^ 256) y
    .ok [wrAccess r (BitVec.ofNat 256 v)]
  else if word == "WRCAP" then do
    let i ← parseNumber x
    let b ← parseBelow 256 y
    .ok [.writeCap i (BitVec.ofNat 8 b)]
  else if word == "WRWIRE" then do
    let j ← parseNumber x
    let b ← parseBelow 256 y
    .ok [.writeWireIn j (BitVec.ofNat 8 b)]
  else if word == "PUSH_IMM" then do
    let w ← parseBelow 512 x
    let v ← parseBelow (2 ^ 256) y
    .ok (Pseudo.pushImm (BitVec.ofNat 9 w) (BitVec.ofNat 256 v)).expand
  else .error .unknownWord

/-- One line of a host program (30_encoding.md R95, R96): an empty line or a comment gives nothing. -/
def assembleLine (line : List Char) : Except AsmError (List HostAccess) :=
  match lineParts line with
  | none => .ok []
  | some (word, operands) =>
    match plainCommands.find? (·.1 == word), plainPseudos.find? (·.1 == word) with
    | some (_, i), _ => if operands.isEmpty then assembleCommand i else .error .wrongOperands
    | none, some (_, p) => if operands.isEmpty then .ok p.expand else .error .wrongOperands
    | none, none =>
      if word == "CRC_BYTES" then do
        let ns ← parseAllBelow 256 operands
        if ns.isEmpty then .error .wrongOperands else .ok (Pseudo.crcBytes (ns.map (BitVec.ofNat 8))).expand
      else match operands with
        | [x] => assembleOne word x
        | [x, y] => assembleTwo word x y
        | _ => .error .wrongOperands

/-- A host program, line by line (30_encoding.md R95). -/
def assemble : List String → Except AsmError (List HostAccess)
  | [] => .ok []
  | line :: rest => do
    let here ← assembleLine line.toList
    let later ← assemble rest
    .ok (here ++ later)

end Sys2Proof.Machine
end

