-- ==== Sys2Proof/Tests/Slice0.lean ====
section
/-! SUPPORT. Tests: the smoke test of WellFormed, every command's word written out bit by bit, one step of each command on
a small state (expected values from spec/95_test_vectors.md), and a witness for the hypotheses of every statement. -/

namespace Sys2Proof.Tests

open Sys2Proof Sys2Proof.Machine

/-! ### Helpers -/

/-- The next state, if there is one. -/
def after (o : Host.Outcome State Fault Refusal) : Option State :=
  match o with
  | .next t => some t
  | .fault _ => none
  | .refused _ => none

/-- The fault, if there is one. -/
def stop (o : Host.Outcome State Fault Refusal) : Option Fault :=
  match o with
  | .next _ => none
  | .fault f => some f
  | .refused _ => none

/-- ERR and ERR_INFO after a command. -/
def outcome (o : Host.Outcome State Fault Refusal) : Option (Err × Word32) := (after o).map fun t => (t.err, t.errInfo)

/-- The packets of 95_test_vectors.md. -/
def packet5 : Word256 := 0xE8413E03C480138800000000000000000000000000000000000000000000DCB3
def packetQ : Word256 := 0x68413E03C48013880000000000000000000000000000000000000000000013B7
def packet2 : Word256 := 0xC5030B579BDF2345670123456789ABCDEF0123456789ABCD5A01020304053958

/-- After reset, with a packet. -/
def withPacket (p : Word256) : State := writePacket p State.reset

/-- A state with a resolved layout. -/
def withLayout (s : State) (d : Nat) : State := writeLayout true true d (agencyFixedLen d) (pb1LenOf d) s

/-- A state with the unknown layout. -/
def withUnknown (s : State) : State := writeLayout true false 0 0 0 s

/-- The first samples of a capture, the rest of its `n` bytes 0x00. -/
def capture (n : Nat) (ones : Nat → Bool) : Memory := (List.range n).map fun i => (i, if ones i then 1 else 0)

/-- A capture of `n` written bytes in CAP, CAP_LEN = n. -/
def withCapture (n : Nat) (ones : Nat → Bool) : State :=
  { State.reset with cap := capture n ones, capLen := BitVec.ofNat 32 n }

/-- A scan under way. -/
def scanning (s : State) (x : ScanState) (pos : Nat) : State :=
  { s with status := { s.status with scanState := x }, scanPos := BitVec.ofNat 32 pos }

/-- A candidate under way at index `pos`. -/
def inBurst (s : State) (start length zeros ones pos : Nat) : State :=
  { scanning s .inBurst pos with
    runStart := BitVec.ofNat 32 start, runLength := BitVec.ofNat 32 length, consecZeros := BitVec.ofNat 2 zeros,
    consecOnes := BitVec.ofNat 2 ones }

/-- Eight zero samples, a packet in a Manchester code, zero samples (95_test_vectors.md 1.7). -/
def manchester (secondHalf : Bool) (p : Word256) (i : Nat) : Bool :=
  decide (8 ≤ i) && decide (i < 520) && manchesterSample secondHalf p (i - 8)

/-- 8z + M(T) + 8z, or 8z + M'(T) + 8z. -/
def burstState (secondHalf : Bool) (p : Word256) : State := withCapture 528 (manchester secondHalf p)

/-- The inputs of the source's section 8.5 example. -/
def inputs5 : InputRegs :=
  { header := 7, tagType := 2, appId := 0, groupId := 65, agencyId := 31, serial := 123456, agencyFixed := 5000, pb1 := 0,
    hov := 0, pb2 := 0 }

/-- The largest inputs for divider d, plus `more`. -/
def maxInputs (d : Nat) (more : Word256) : InputRegs :=
  { header := 7 + more, tagType := 7 + more, appId := 7 + more, groupId := 127 + more, agencyId := 127 + more,
    serial := 0xFFFFFF + more, agencyFixed := BitVec.ofNat 256 (mask (d - 47)) + more,
    pb1 := BitVec.ofNat 256 (mask (192 - d)) + more, hov := 255 + more, pb2 := 0xFFFFFFFFFF + more }

/-- A boolean reading of `hasSample`. -/
theorem hasSample_of {s : State} {i : Nat} {one : Bool}
    (h : (decide (i < s.capSize.bytes) && decide ((Memory.read s.cap i).map sample = some one)) = true) :
    hasSample s i one := by
  simp only [Bool.and_eq_true, decide_eq_true_eq, Option.map_eq_some_iff] at h
  exact h

/-- A boolean reading of `readable`. -/
theorem readable_of {s : State} {lo hi : Nat}
    (h : ∀ i, i < hi → lo ≤ i → hasSample s i (sampleAt s i)) : readable s lo hi :=
  fun i hl hh => ⟨_, h i hh hl⟩

/-! ### WellFormed -/

theorem test_wellFormed_refuses_crcByte_above_255 : (Instr.crcByte 0x100).wellFormed = false := by decide

theorem test_wellFormed_accepts_crcByte_255 : (Instr.crcByte 0x0FF).wellFormed = true := by decide

/-! ### Decoding: each word as RSV (6 bits), B (9), A (9), OP (8) of 30_encoding.md R90, OP from R93 -/

theorem test_decode_nop : decodeTableWord 32 0b00000000000000000000000000000000 = some .nop := by decide
theorem test_decode_softReset : decodeTableWord 32 0b00000000000000000000000000000001 = some .softReset := by decide
theorem test_decode_loadShort : decodeTableWord 32 0b00000000000000000000000000010000 = some .loadShort := by decide
/-- SLICE 192, 17: RSV 000000, B 000010001, A 011000000, OP 00010001. -/
theorem test_decode_slice : decodeTableWord 32 0b00000000001000101100000000010001 = some (.slice 192 17) := by decide
theorem test_decode_pushClear : decodeTableWord 32 0b00000000000000000000000000010010 = some .pushClear := by decide
/-- PUSH 300: RSV 000000, B 000000000, A 100101100, OP 00010011. -/
theorem test_decode_push : decodeTableWord 32 0b00000000000000010010110000010011 = some (.push 300) := by decide
theorem test_decode_crcClear : decodeTableWord 32 0b00000000000000000000000000100000 = some .crcClear := by decide
/-- CRC_BYTE 0x31: A 000110001, OP 00100001. -/
theorem test_decode_crcByte : decodeTableWord 32 0b00000000000000000011000100100001 = some (.crcByte 0x31) := by decide
theorem test_decode_crcCompute : decodeTableWord 32 0b00000000000000000000000000100010 = some .crcCompute := by decide
theorem test_decode_crcVerify : decodeTableWord 32 0b00000000000000000000000000100011 = some .crcVerify := by decide
theorem test_decode_scanInit : decodeTableWord 32 0b00000000000000000000000000110000 = some .scanInit := by decide
theorem test_decode_scanStep : decodeTableWord 32 0b00000000000000000000000000110001 = some .scanStep := by decide
theorem test_decode_scanRun : decodeTableWord 32 0b00000000000000000000000000110010 = some .scanRun := by decide
theorem test_decode_mdecStep : decodeTableWord 32 0b00000000000000000000000000110011 = some .mdecStep := by decide
theorem test_decode_mdecRun : decodeTableWord 32 0b00000000000000000000000000110100 = some .mdecRun := by decide
theorem test_decode_locate : decodeTableWord 32 0b00000000000000000000000000110101 = some .locate := by decide
theorem test_decode_resolve : decodeTableWord 32 0b00000000000000000000000001000000 = some .resolve := by decide
theorem test_decode_resolvePkt : decodeTableWord 32 0b00000000000000000000000001000001 = some .resolvePkt := by decide
theorem test_decode_decode : decodeTableWord 32 0b00000000000000000000000001010000 = some .decode := by decide
theorem test_decode_encode : decodeTableWord 32 0b00000000000000000000000001010001 = some .encode := by decide
theorem test_decode_dissect : decodeTableWord 32 0b00000000000000000000000001010010 = some .dissect := by decide
theorem test_decode_craft : decodeTableWord 32 0b00000000000000000000000001010011 = some .craft := by decide

/-- The four grounds of 30_encoding.md R92, each by name. -/
theorem test_decode_illegal_words :
    decode 0x00000002 = .error .reservedOpcode ∧ decode 0x000000FF = .error .reservedOpcode ∧
    decode 0x80000011 = .error .reservedBits ∧ decode 0x00000100 = .error .unusedOperand ∧
    decode 0x00020021 = .error .unusedOperand ∧ decode 0x00010021 = .error .byteTooWide := by
  refine ⟨?_, ?_, ?_, ?_, ?_, ?_⟩ <;> rfl

theorem test_encode_slice : encode (.slice 192 17) = 0x0022C011 := by decide

theorem test_encode_push : encode (.push 300) = 0x00012C13 := by decide

/-! ### One step of each command (95_test_vectors.md sections 2.2 to 2.8) -/

theorem test_nop_acknowledges :
    outcome (exec .nop { State.reset with err := .fieldOutOfRange, errInfo := 0x8000 }) = some (.ok, 0) := by decide

theorem test_softReset_clears_packet_keeps_capLen :
    (after (exec .softReset { withPacket packet5 with capLen := 528 })).map (fun t => (t.packet, t.status, t.capLen)) =
      some (0, Status.reset, 528) := by decide +kernel

/-- The first and the last byte of the wire form (95_test_vectors.md 1.1). -/
theorem test_loadShort_byte_order :
    (after (exec .loadShort { State.reset with wireIn := ((Vector.replicate 32 0).set 0 0xE8).set 31 0xB3 })).map
      (fun t => (t.packet, t.status.word)) =
      some (0xE8000000000000000000000000000000000000000000000000000000000000B3, 0x1) := by decide +kernel

theorem test_slice_192_17 :
    (after (exec (.slice 192 17) (withPacket packet5))).map (·.sliceOut) = some 0x1388 := by decide +kernel

theorem test_slice_past_the_top :
    (after (exec (.slice 250 100) (withPacket packet5))).map (·.sliceOut) = some 0x3A := by decide +kernel

theorem test_pushClear : (after (exec .pushClear { State.reset with pushAcc := 7 })).map (·.pushAcc) = some 0 := by decide

theorem test_push_appends :
    (after (exec (.push 3) { State.reset with pushAcc := 7, pushVal := 2 })).map (·.pushAcc) = some 0x3A := by
  decide +kernel

theorem test_push_drops_the_top_bit :
    (after (exec (.push 1) { State.reset with pushAcc := BitVec.twoPow 256 255, pushVal := 1 })).map (·.pushAcc) =
      some 1 := by decide +kernel

theorem test_crcClear : (after (exec .crcClear { State.reset with crc := 0x31C3 })).map (·.crc) = some 0 := by decide

theorem test_crcByte_80 : (after (exec (.crcByte 0x80) State.reset)).map (·.crc) = some 0x9188 := by decide +kernel

theorem test_crcByte_second_byte :
    (after (exec (.crcByte 0xFF) { State.reset with crc := 0x1EF0 })).map (·.crc) = some 0x1D0F := by decide +kernel

theorem test_crcCompute :
    (after (exec .crcCompute (withPacket packet5))).map (·.crcExpected) = some 0xDCB3 := by decide +kernel

theorem test_crcVerify_mismatch :
    (after (exec .crcVerify (withPacket (packet5 ^^^ 1)))).map
      (fun t => (t.crcExpected, t.crcActual, t.status.crcMatch, t.err, t.errInfo)) =
      some (0xDCB3, 0xDCB2, false, .crcMismatch, 0xDCB3DCB2) := by decide +kernel

theorem test_scanInit_too_short :
    outcome (exec .scanInit { State.reset with capLen := 511 }) = some (.captureTooShort, 0x1FF) := by decide +kernel

/-- The third 1 in a row closes the candidate and does not open the next one (95_test_vectors.md 2.5, step 4). -/
theorem test_scanStep_third_one :
    (after (exec .scanStep (inBurst (withCapture 8 fun i => i = 3) 1 2 0 2 3))).map
      (fun t => (t.status.scanState, t.scanPos, t.runLength, t.consecOnes)) = some (.idle, 4, 0, 0) := by decide +kernel

/-- A burst from index 0 is refused (43_burst_locator.md R164). -/
theorem test_scanStep_burst_at_the_start :
    (after (exec .scanStep (inBurst (withCapture 515 fun _ => false) 0 513 2 0 513))).map
      (fun t => (t.err, t.errInfo, t.status.scanState, t.runLength)) =
      some (.burstNotFound, 1, .notFound, 514) := by decide +kernel

theorem test_scanRun_zeros :
    (after (exec .scanRun (scanning (withCapture 20 fun _ => false) .idle 0))).map
      (fun t => (t.err, t.errInfo, t.status.scanState, t.scanPos)) = some (.burstNotFound, 0, .notFound, 20) := by
  decide +kernel

/-- The second bit of Q (95_test_vectors.md 2.5, decoder step). -/
theorem test_mdecStep_second_bit :
    (after (exec .mdecStep
      { scanning (withCapture 12 fun i => i = 10) .accepted 12 with burstOffset := 8, mdecCount := 1 })).map
      (fun t => (t.mdecAcc, t.mdecCount)) = some (1, 2) := by decide +kernel

theorem test_mdecRun_complete_already :
    outcome (exec .mdecRun { scanning State.reset .accepted 0 with mdecCount := 256 }) = some (.notReady, 16) := by
  decide +kernel

/-- The last bit, at BURST_OFFSET + 510, completes the packet (43_burst_locator.md R169). -/
theorem test_mdecRun_last_bit :
    (after (exec .mdecRun
      { scanning State.reset .accepted 0 with cap := [(514, 0xFF)], burstOffset := 4, mdecCount := 255, mdecAcc := 2 })).map
      (fun t => (t.err, t.mdecCount, t.packet, t.status.pktValid)) = some (.ok, 256, 5, true) := by decide +kernel

theorem test_locate_too_short :
    outcome (exec .locate { State.reset with capLen := 511 }) = some (.captureTooShort, 0x1FF) := by decide +kernel

theorem test_locate_reads_the_first_sample :
    stop (exec .locate { State.reset with capLen := 512 }) = some (.capByteUnwritten 0) := by decide +kernel

theorem test_resolve_known_agency_beats_override :
    (after (exec .resolve { State.reset with agencyIn := 10, overrideCtl := 1, overrideDivider := 60 })).map
      (fun t => (t.err, t.divider, t.afLen, t.pb1Len)) = some (.ok, 64, 17, 128) := by decide +kernel

theorem test_resolve_illegal_override :
    outcome (exec .resolve { State.reset with agencyIn := 5, overrideCtl := 1, overrideDivider := 192 }) =
      some (.invalidDivider, 0xC0) := by decide +kernel

theorem test_resolvePkt : (after (exec .resolvePkt (withPacket packet5))).map (·.divider) = some 64 := by decide +kernel

theorem test_decode_with_override_72 :
    (after (exec .decode (withLayout (withPacket packet5) 72))).map
      (fun t => (t.fields.agencyFixed, t.fields.pb1, t.fields.serial, t.fields.combined, t.status.fieldsSplit)) =
      some (0x138800, 0, 0x1E240, 0x138800000000000000000000000000000000, true) := by decide +kernel

theorem test_decode_needs_packet_and_layout : outcome (exec .decode State.reset) = some (.notReady, 3) := by decide

theorem test_encode_maxima :
    (after (exec .encode (withLayout { State.reset with inputs := maxInputs 184 0 } 184))).map (·.packet) =
      some 0xFFFFFFFFFFFFFFFFFFFFFFFFFFFFFFFFFFFFFFFFFFFFFFFFFFFFFFFFFFFF75F8 := by decide +kernel

theorem test_encode_all_too_wide :
    outcome (exec .encode (withLayout { State.reset with inputs := maxInputs 48 1 } 48)) =
      some (.fieldOutOfRange, 0x3FF) := by decide +kernel

theorem test_dissect_wrong_boundary :
    (after (exec .dissect { withPacket packet2 with overrideCtl := 1, overrideDivider := 64 })).map
      (fun t => (t.err, t.fields.agencyFixed, t.fields.pb1)) =
      some (.ok, 0x12345, 0x670123456789ABCDEF0123456789ABCD) := by decide +kernel

theorem test_craft_example :
    (after (exec .craft { State.reset with inputs := inputs5 })).map
      (fun t => (t.err, t.packet, t.status.word)) = some (.ok, packet5, 0x7) := by decide +kernel

theorem test_craft_compares_the_whole_agency :
    outcome (exec .craft
      { State.reset with
        inputs := { inputs5 with agencyId := 31 + BitVec.twoPow 256 200 }, overrideCtl := 1, overrideDivider := 64 }) =
      some (.fieldOutOfRange, 0x10) := by decide +kernel

/-! ### The host's side -/

theorem test_capLen_is_limited :
    (after (step { State.reset with host := [.writeReg 0x04 5000] })).map (·.capLen) = some 0x400 := by decide +kernel

theorem test_unwritten_sample_stops :
    stop (exec .scanStep (scanning { State.reset with capLen := 1 } .idle 0)) = some (.capByteUnwritten 0) := by decide

theorem test_illegal_word_reports :
    outcome (step (State.reset.withFetchWord 32 0x712)) = some (.illegalCommand, 0x712) := by decide +kernel

theorem test_reset_reads_zero : regValue State.reset .status = 0 ∧ hostReadReg State.reset 0x0D = 0 := by decide

/-- Three lines of 95_test_vectors.md section 3. -/
theorem test_assemble_lines :
    ((assemble ["SLICE 192, 17    ; 0x0022C011", "WR CAP_LEN, 528", "SCAN"]).toOption) =
      some [.writeReg 0x00 0x0022C011, .writeReg 0x04 528, .writeReg 0x00 0x30, .writeReg 0x00 0x32] := by
  decide +kernel

/-! ### A state of the invariant with an accepted burst -/

/-- An accepted burst at index 1: 512 zero samples read, 511 of them counted. The host writes MDEC_STEP next. -/
def acceptedState : State :=
  { scanning (withCapture 512 fun _ => false) .accepted 512 with
    runStart := 1, runLength := 511, consecZeros := 3, burstOffset := 0, host := [.writeReg 0x00 0x33] }

theorem read_map_range' (f : Nat → Byte) (i : Nat) : ∀ n start,
    Memory.read ((List.range' start n).map fun j => (j, f j)) i =
      if start ≤ i ∧ i < start + n then some (f i) else none
  | 0, start => by
    rw [if_neg (by omega)]
    rfl
  | n + 1, start => by
    rw [List.range'_succ, List.map_cons, Memory.read, read_map_range' f i n (start + 1)]
    by_cases hi : start = i
    · subst hi; simp
    · have h : (start + 1 ≤ i ∧ i < start + 1 + n) ↔ (start ≤ i ∧ i < start + (n + 1)) := by omega
      rw [if_neg hi]
      simp only [h]

theorem read_capture (n : Nat) (f : Nat → Bool) (i : Nat) :
    Memory.read (capture n f) i = if i < n then some (if f i then 1 else 0) else none := by
  simpa [capture, List.range_eq_range'] using read_map_range' (fun i => if f i then 1 else 0) i n 0

theorem wfAbove_map_range' (f : Nat → Byte) : ∀ n start k, k < start →
    Memory.wfAbove k ((List.range' start n).map fun j => (j, f j)) = true
  | 0, _, _, _ => rfl
  | n + 1, start, k, h => by
    rw [List.range'_succ, List.map_cons, Memory.wfAbove, wfAbove_map_range' f n (start + 1) start (by omega)]
    simp [h]

theorem wf_capture (n : Nat) (f : Nat → Bool) : Memory.wf (capture n f) = true := by
  cases n with
  | zero => rfl
  | succ n =>
    have h := wfAbove_map_range' (fun i => if f i then 1 else 0) n 1 0 (by omega)
    simpa [capture, List.range_eq_range', List.range'_succ, Memory.wf] using h

/-- What a capture of `n` bytes holds. -/
theorem hasSample_capture {s : State} {n i : Nat} {f : Nat → Bool} (hc : s.cap = capture n f) (hi : i < n)
    (hs : n ≤ s.capSize.bytes) : hasSample s i (f i) := by
  refine ⟨Nat.lt_of_lt_of_le hi hs, if f i then 1 else 0, by rw [hc, read_capture, if_pos hi], ?_⟩
  cases f i <;> decide

theorem acceptedState_cap : acceptedState.cap = capture 512 fun _ => false := by
  simp only [acceptedState, scanning, withCapture]

theorem acceptedState_written (a : Nat) (h : a < 512) : Memory.read acceptedState.cap a ≠ none := by
  rw [acceptedState_cap, read_capture, if_pos h]
  simp

theorem acceptedState_inside (a : Nat) (b : Byte) (h : Memory.read acceptedState.cap a = some b) : a < 512 := by
  rw [acceptedState_cap, read_capture] at h
  by_contra hn
  simp [hn] at h

theorem acceptedState_scanPos : acceptedState.scanPos.toNat = 512 := by decide +kernel

/-- EveryStepKeepsTheInvariant, OnlyAnUnwrittenSampleStopsTheMachine, EveryCommandCompletesOnAWrittenCapture and
MdecRunAlwaysCompletes: a state of the invariant with an accepted burst. -/
theorem test_wit_Inv_accepted : Inv acceptedState where
  capture := ⟨acceptedState_cap ▸ wf_capture 512 _, fun a b h => Nat.lt_trans (acceptedState_inside a b h) (by decide +kernel),
    by decide +kernel⟩
  locator := ⟨by decide +kernel, fun a h => acceptedState_written a (acceptedState_scanPos ▸ h), by decide +kernel,
    by decide +kernel, fun _ => by decide +kernel⟩
  decoder := ⟨by decide +kernel, by decide +kernel⟩
  layout := ⟨by decide +kernel, by decide +kernel, fun _ => by decide +kernel⟩
  derived := ⟨by decide +kernel, by decide +kernel, by decide +kernel, by decide +kernel,
    fun h => absurd h (by decide +kernel), fun h => absurd h (by decide +kernel), fun h => absurd h (by decide +kernel)⟩
  outcome := (rfl : (0 : Word32) = 0)

/-- A state of the invariant whose next step stops: a scan under way, no CAP byte written, and SCAN_STEP next. -/
def unwrittenState : State :=
  { scanning State.reset .idle 0 with capLen := 1, host := [.writeReg 0x00 0x31] }

theorem test_wit_Inv_unwritten : Inv unwrittenState where
  capture := ⟨by decide, fun _ _ h => (nomatch h), by decide⟩
  locator := ⟨by decide, fun _ h => absurd h (Nat.not_lt_zero _), by decide, by decide, fun h => (nomatch h)⟩
  decoder := ⟨by decide, by decide⟩
  layout := ⟨by decide, by decide, fun _ => by decide⟩
  derived := ⟨by decide, by decide, by decide, by decide, fun h => (nomatch h), fun h => (nomatch h), fun h => (nomatch h)⟩
  outcome := (rfl : (0 : Word32) = 0)

/-! ### Witnesses: the hypotheses of each statement, met together -/

theorem next_of_after {o : Host.Outcome State Fault Refusal} (h : (after o).isSome = true) : ∃ t, o = .next t := by
  cases o with
  | next t => exact ⟨t, rfl⟩
  | fault f => cases h
  | refused r => cases h

/-- EncodeThenDecodeReturnsCommand, at the edge of the one limit. -/
theorem test_wit_EncodeThenDecodeReturnsCommand : (Instr.crcByte 0x0FF).wellFormed = true := by decide

theorem test_wit_DecodeThenEncodeReturnsWord : decode 0x03FFFF11 = .ok (.slice 511 511) := rfl

theorem test_wit_StepRunsTheDecodedCommand :
    { State.reset with host := [.writeReg 0x00 0x0022C011, .readReg 0x02] }.host =
      .writeReg 0x00 0x0022C011 :: [.readReg 0x02] ∧
    decode ((0x0022C011 : Word256).setWidth 32) = .ok (.slice 192 17) := ⟨rfl, rfl⟩

theorem test_wit_PlacedWordRunsNext : decodeTableWord 32 0x0022C011 = some (.slice 192 17) := by decide

theorem test_wit_IllegalWordOnlyReports :
    { State.reset with host := [.writeReg 0x00 0x54] }.host = .writeReg 0x00 0x54 :: [] ∧
    decode ((0x54 : Word256).setWidth 32) = .error .reservedOpcode := ⟨rfl, rfl⟩

theorem test_wit_SoftResetClearsAndKeeps_registers :
    (regRow .packet).softReset = .cleared ∧ (regRow .capLen).softReset ≠ .cleared ∧
    (regRow .cmd).softReset ≠ .cleared := by decide

/-- SliceExtractsTheField, CrcComputeWritesExpected, CrcVerifyRecordsAndReports: no packet and a packet; and for the last
one, both of its cases. -/
theorem test_wit_packet_commands :
    State.reset.status.pktValid = false ∧ (withPacket packet5).status.pktValid = true ∧ computeCrc packet5 = storedCrc packet5 ∧
    computeCrc (packet5 ^^^ 1) ≠ storedCrc (packet5 ^^^ 1) := by decide +kernel

theorem test_wit_SliceLaws : 256 ≤ 256 ∧ 256 - 0 ≤ 256 ∧ 256 - 250 ≤ 6 := by decide

/-- PushAppendsOrRejects at 2^3 − 1 and at 2^3. -/
theorem test_wit_PushAppendsOrRejects :
    (7 : Word256).toNat < 2 ^ (3 : BitVec 9).toNat ∧ 2 ^ (3 : BitVec 9).toNat ≤ (8 : Word256).toNat := by decide

theorem test_wit_CrcSeesEverySingleBitFlip :
    bitRange packet5 255 16 = bitRange (packet5 ^^^ 1) 255 16 ∧ packet5 ≠ packet5 ^^^ 1 ∧ 16 ≤ 255 ∧ 255 ≤ 255 := by
  decide +kernel

theorem test_wit_ScanStepInIdle (one : Bool) :
    let s := scanning (withCapture 8 fun _ => one) .idle 7
    s.status.scanState = .idle ∧ s.scanPos.toNat < s.capLen.toNat ∧ hasSample s s.scanPos.toNat one := by
  refine ⟨rfl, by decide +revert +kernel, hasSample_capture (f := fun _ => one) rfl ?_ ?_⟩ <;> decide +revert +kernel

/-- ScanStepInBurstOnOne: the third 1, and an earlier one. -/
theorem test_wit_ScanStepInBurstOnOne (ones : Fin 3) :
    let s := inBurst { State.reset with cap := [(7, 1)], capLen := 8 } 2 (1 + ones.val) 0 ones.val 7
    s.status.scanState = .inBurst ∧ s.scanPos.toNat < s.capLen.toNat ∧ s.consecOnes.toNat ≤ 2 ∧
      s.runLength.toNat ≤ s.scanPos.toNat ∧ hasSample s s.scanPos.toNat true ∧ (s.consecOnes = 2 ↔ ones = 2) := by
  refine ⟨rfl, ?_, ?_, ?_, hasSample_of ?_, ?_⟩ <;> decide +revert +kernel

/-- ScanStepInBurstOnZero: an earlier 0; a third 0 at the four run lengths about the window's edges; a start at 0. -/
theorem test_wit_ScanStepInBurstOnZero (start : Fin 2) (zeros : Fin 3) (length : Fin 4) :
    let s := inBurst { State.reset with cap := [(600, 0)], capLen := 601 } start ([509, 510, 516, 517].get length) zeros
      0 600
    s.status.scanState = .inBurst ∧ s.scanPos.toNat < s.capLen.toNat ∧ s.consecZeros.toNat ≤ 2 ∧
      s.runLength.toNat ≤ s.scanPos.toNat ∧ hasSample s s.scanPos.toNat false ∧
      (s.runLength + 1).toNat = [510, 511, 517, 518].get length := by
  refine ⟨rfl, ?_, ?_, ?_, hasSample_of ?_, ?_⟩ <;> decide +revert +kernel

/-- ScanEndsAtTheCaptureEnd, with SCAN_POS at CAP_LEN and above it. -/
theorem test_wit_ScanEndsAtTheCaptureEnd :
    let s := scanning { State.reset with capLen := 8 } .idle 8
    let u := inBurst { State.reset with capLen := 8 } 3 6 0 1 9
    (s.status.scanState = .idle ∧ s.capLen.toNat ≤ s.scanPos.toNat) ∧
      u.status.scanState = .inBurst ∧ u.capLen.toNat ≤ u.scanPos.toNat := by decide +kernel

/-- The two code captures, a scan under way at the first sample of the packet. -/
def burstScan (secondHalf : Bool) (p : Word256) : State := scanning (burstState secondHalf p) .idle 8

theorem hasSample_burst (secondHalf : Bool) (p : Word256) (i : Nat) (h : i < 528) :
    hasSample (burstState secondHalf p) i (manchester secondHalf p i) :=
  hasSample_capture (by simp only [burstState, withCapture]) h (show 528 ≤ 1024 by decide)

theorem hasSample_burstScan (secondHalf : Bool) (p : Word256) (i : Nat) (h : i < 528) :
    hasSample (burstScan secondHalf p) i (manchester secondHalf p i) :=
  hasSample_capture (by simp only [burstScan, scanning, burstState, withCapture]) h (show 528 ≤ 1024 by decide)

theorem manchester_packet (secondHalf : Bool) (p : Word256) (k : Nat) (h : k < 512) :
    manchester secondHalf p (8 + k) = manchesterSample secondHalf p k := by
  have h1 : 8 + k < 520 := by omega
  simp [manchester, h1]

theorem manchester_outside (secondHalf : Bool) (p : Word256) (i : Nat) (h : i < 8 ∨ 520 ≤ i) :
    manchester secondHalf p i = false := by
  rcases h with h | h
  · have h1 : ¬ 8 ≤ i := by omega
    simp [manchester, h1]
  · have h1 : ¬ i < 520 := by omega
    simp [manchester, h1]

theorem burstScan_scanPos (secondHalf : Bool) (p : Word256) : (burstScan secondHalf p).scanPos.toNat = 8 := by
  simp only [burstScan, scanning]
  rfl

theorem burstState_capLen (secondHalf : Bool) (p : Word256) : (burstState secondHalf p).capLen.toNat = 528 := by
  simp only [burstState, withCapture]
  rfl

theorem burstScan_capLen (secondHalf : Bool) (p : Word256) : (burstScan secondHalf p).capLen.toNat = 528 :=
  burstState_capLen secondHalf p

/-- ManchesterBurstIsFoundAndDecoded, for either code and every packet; ScanRunIsRepeatedScanStep's state too. -/
theorem test_wit_ManchesterBurstIsFoundAndDecoded (secondHalf : Bool) (p : Word256) :
    let s := burstScan secondHalf p
    1 ≤ 8 ∧ s.status.scanState = .idle ∧ s.scanPos.toNat = 8 ∧ 8 + 515 ≤ s.capLen.toNat ∧ hasSample s (8 - 1) false ∧
      (∀ k, k < 512 → hasSample s (8 + k) (manchesterSample secondHalf p k)) ∧
      ∀ k, 512 ≤ k → k < 515 → hasSample s (8 + k) false := by
  refine ⟨by decide, rfl, burstScan_scanPos _ _, by rw [burstScan_capLen]; decide, ?_, ?_, ?_⟩
  · exact manchester_outside secondHalf p 7 (by decide) ▸ hasSample_burstScan secondHalf p 7 (by decide)
  · intro k hk
    exact manchester_packet secondHalf p k hk ▸ hasSample_burstScan secondHalf p (8 + k) (by omega)
  · intro k h1 h2
    exact manchester_outside secondHalf p (8 + k) (by omega) ▸ hasSample_burstScan secondHalf p (8 + k) (by omega)

/-- LocateFindsTheManchesterBurst, for either code and every packet. -/
theorem test_wit_LocateFindsTheManchesterBurst (secondHalf : Bool) (p : Word256) :
    let s := burstState secondHalf p
    1 ≤ 8 ∧ 8 + 515 ≤ s.capLen.toNat ∧ (∀ i, i < 8 → hasSample s i false) ∧
      (∀ k, k < 512 → hasSample s (8 + k) (manchesterSample secondHalf p k)) ∧
      ∀ k, 512 ≤ k → k < 515 → hasSample s (8 + k) false := by
  refine ⟨by decide, by rw [burstState_capLen]; decide, ?_, ?_, ?_⟩
  · intro i hi
    exact manchester_outside secondHalf p i (.inl hi) ▸ hasSample_burst secondHalf p i (by omega)
  · intro k hk
    exact manchester_packet secondHalf p k hk ▸ hasSample_burst secondHalf p (8 + k) (by omega)
  · intro k h1 h2
    exact manchester_outside secondHalf p (8 + k) (by omega) ▸ hasSample_burst secondHalf p (8 + k) (by omega)

/-- ScanRunAcceptsOrFindsNothing and ScanRunIsRepeatedScanStep: the capture of packet Q, a scan under way. -/
theorem test_wit_ScanRunAcceptsOrFindsNothing :
    (burstScan false packetQ).status.scanState = .idle ∧
    readable (burstScan false packetQ) (burstScan false packetQ).scanPos.toNat (burstScan false packetQ).capLen.toNat := by
  refine ⟨rfl, fun i _ h => ⟨_, hasSample_burstScan false packetQ i ?_⟩⟩
  rw [burstScan_capLen] at h
  exact h

/-- LocateFindsAPacketOrNone: the same capture, before any scan. -/
theorem test_wit_LocateFindsAPacketOrNone :
    512 ≤ (burstState false packetQ).capLen.toNat ∧
    readable (burstState false packetQ) 0 (burstState false packetQ).capLen.toNat := by
  rw [burstState_capLen]
  exact ⟨by decide, fun i _ h => ⟨_, hasSample_burst false packetQ i h⟩⟩

/-- MdecStepTakesOneBit: the last bit, and one before it. -/
theorem test_wit_MdecStepTakesOneBit (last : Bool) :
    let s := { scanning State.reset .accepted 0 with
               cap := [(0, 0), (510, 0xFF)], mdecCount := if last then 255 else 0 }
    s.status.scanState = .accepted ∧ s.mdecCount.toNat < 256 ∧
      hasSample s (s.burstOffset.toNat + 2 * s.mdecCount.toNat) last := by
  refine ⟨rfl, by decide +revert, hasSample_of ?_⟩
  decide +revert +kernel

/-- MdecRunIsRepeatedMdecStep, MdecRunDecodesEveryOtherSample, MdecRunAlwaysCompletes. -/
theorem test_wit_MdecRun :
    acceptedState.status.scanState = .accepted ∧ acceptedState.mdecCount = 0 ∧ acceptedState.mdecCount ≠ 256 ∧
    acceptedState.mdecCount.toNat < 256 ∧
    ∀ k, k < 256 → ∃ one, hasSample acceptedState (acceptedState.burstOffset.toNat + 2 * k) one := by
  refine ⟨rfl, rfl, by decide +kernel, by decide +kernel, fun k hk => ⟨false, ?_⟩⟩
  refine hasSample_capture (f := fun _ => false) acceptedState_cap ?_ (show 512 ≤ 1024 by decide)
  have h0 : acceptedState.burstOffset.toNat = 0 := by decide +kernel
  omega

/-- LocateIsItsThreeParts: SCAN_INIT raises; it passes and the scan stops; the scan finds nothing. -/
theorem test_wit_LocateIsItsThreeParts :
    (∃ a, exec .scanInit { State.reset with capLen := 511 } = .next a ∧ a.err ≠ .ok) ∧
    (∃ a f, exec .scanInit { State.reset with capLen := 512 } = .next a ∧ a.err = .ok ∧ exec .scanRun a = .fault f) ∧
    ∃ b, exec .scanRun (scanning (withCapture 2 fun _ => false) .idle 0) = .next b ∧ b.err ≠ .ok := by
  refine ⟨⟨_, rfl, by decide +kernel⟩, ⟨_, _, rfl, rfl, rfl⟩, ?_⟩
  obtain ⟨b, hb⟩ := next_of_after (o := exec .scanRun (scanning (withCapture 2 fun _ => false) .idle 0)) (by decide +kernel)
  have h : (after (exec .scanRun (scanning (withCapture 2 fun _ => false) .idle 0))).map (·.err) = some .burstNotFound := by
    decide +kernel
  rw [hb] at h
  exact ⟨b, hb, fun he => by simp [after, he] at h⟩

/-- LocateIsItsThreeParts: the scan accepts. -/
theorem test_wit_LocateIsItsThreeParts_accepts :
    outcome (exec .scanRun (inBurst { State.reset with cap := [(512, 0)], capLen := 513 } 1 511 2 0 512)) =
      some (.ok, 0) := by decide +kernel

theorem test_wit_VariableWidthsSumTo145 : legalDivider 48 = true ∧ legalDivider 184 = true ∧ legalDivider 60 = false := by
  decide

/-- ResolveFollowsItsTests, DissectIsResolveThenDecode: a packet of a known agency; one with an illegal override. -/
theorem test_wit_DissectIsResolveThenDecode :
    let s := withPacket packet5
    let v := { withPacket packet2 with overrideCtl := 1, overrideDivider := 60 }
    (s.status.pktValid = true ∧ (after (exec .resolvePkt s)).map (·.err) = some .ok) ∧
    (v.status.pktValid = true ∧ (after (exec .resolvePkt v)).map (·.err) = some .invalidDivider) := by
  decide +kernel

/-- DissectWritesTheRecord: a known agency with an illegal override, an unknown one with no override and a CRC that does
not agree, and one with each of the two end dividers. -/
theorem test_wit_DissectWritesTheRecord :
    let s := { withPacket packet5 with overrideCtl := 1, overrideDivider := 60 }
    let u := withPacket (packet2 ^^^ 1)
    let v := { withPacket packet2 with overrideCtl := 1, overrideDivider := 48 }
    let w := { withPacket packet2 with overrideCtl := 1, overrideDivider := 184 }
    (s.status.pktValid = true ∧ bitRange s.packet 239 233 = 31 ∧
      (resolvedState (bitRange s.packet 239 233) s).status.layoutKnown = true) ∧
    (u.status.pktValid = true ∧ u.overrideCtl = 0 ∧ computeCrc u.packet ≠ storedCrc u.packet ∧
      (resolvedState (bitRange u.packet 239 233) u).status.layoutKnown = false) ∧
    (v.status.pktValid = true ∧ 48 ≤ v.overrideDivider.toNat ∧ v.overrideDivider.toNat ≤ 184 ∧
      v.overrideDivider.toNat % 8 = 0) ∧
    (w.status.pktValid = true ∧ 48 ≤ w.overrideDivider.toNat ∧ w.overrideDivider.toNat ≤ 184 ∧
      w.overrideDivider.toNat % 8 = 0) := by
  decide +kernel

/-- DecodeWritesTheRecord: a known layout with a CRC that agrees, the unknown layout with one that does not. -/
theorem test_wit_DecodeWritesTheRecord :
    let s := withLayout (withPacket packet5) 184
    let u := withUnknown (withPacket (packet5 ^^^ 1))
    (s.status.pktValid = true ∧ s.status.layoutValid = true ∧ s.status.layoutKnown = true ∧
      legalDivider s.divider.toNat = true ∧ computeCrc s.packet = storedCrc s.packet) ∧
    (u.status.pktValid = true ∧ u.status.layoutValid = true ∧ u.status.layoutKnown = false ∧
      computeCrc u.packet ≠ storedCrc u.packet) := by decide +kernel

/-- EncodeThenDecodeReturnsInputs: the largest inputs at the two ends of the dividers. -/
theorem test_wit_EncodeThenDecodeReturnsInputs :
    let s := withLayout { State.reset with inputs := maxInputs 48 0 } 48
    let u := withLayout { State.reset with inputs := maxInputs 184 0 } 184
    (s.status.layoutValid = true ∧ s.status.layoutKnown = true ∧ legalDivider s.divider.toNat = true ∧
      inputsFit s.inputs s.divider.toNat) ∧
    (u.status.layoutValid = true ∧ u.status.layoutKnown = true ∧ legalDivider u.divider.toNat = true ∧
      inputsFit u.inputs u.divider.toNat) := by
  simp only [inputsFit]
  decide +kernel

/-- EncodeRejectsWithoutWriting: the unknown layout; a known one with every input one too large. -/
theorem test_wit_EncodeRejectsWithoutWriting :
    let s := withUnknown State.reset
    let u := withLayout { State.reset with inputs := maxInputs 48 1 } 48
    (s.status.layoutValid = true ∧ s.status.layoutKnown = false) ∧
    (u.status.layoutValid = true ∧ u.status.layoutKnown = true ∧ legalDivider u.divider.toNat = true ∧
      ¬ inputsFit u.inputs u.divider.toNat) := by
  simp only [inputsFit]
  decide +kernel

/-- CraftResolvesThenEncodes: each of its four cases. -/
theorem test_wit_CraftResolvesThenEncodes :
    let layoutOf := fun s : State => resolvedState s.inputs.agencyId.toNat s
    let s := { State.reset with inputs := inputs5 }
    let u := { State.reset with inputs := { inputs5 with groupId := 128 } }
    ((layoutOf { State.reset with overrideCtl := 1, overrideDivider := 61 }).status.layoutValid = false) ∧
    ((layoutOf State.reset).status.layoutValid = true ∧ (layoutOf State.reset).status.layoutKnown = false) ∧
    ((layoutOf s).status.layoutKnown = true ∧ inputsFit s.inputs (layoutOf s).divider.toNat) ∧
    ((layoutOf u).status.layoutKnown = true ∧ ¬ inputsFit u.inputs (layoutOf u).divider.toNat) := by
  simp only [inputsFit]
  decide +kernel

theorem test_wit_ShortPacketPathKeepsTheMiddleWhole :
    { State.reset with agencyIn := 5 }.agencyIn.toNat ≠ 10 ∧ { State.reset with agencyIn := 5 }.agencyIn.toNat ≠ 31 ∧
    { State.reset with agencyIn := 5 }.overrideCtl = 0 := by decide

/-- CommandsWriteOnlyTheirRegisters, OutcomesAreTheTablesOutcomes and FlagsChangeOnlyAsListed: LOAD_SHORT raises a flag,
SOFT_RESET lowers it and SCAN_INIT changes SCAN_STATE. -/
theorem test_wit_FlagsChangeOnlyAsListed :
    (after (exec .loadShort State.reset)).map (fun t => t.status.flag .pktValid) = some true ∧
    (after (exec .softReset (withPacket packet5))).map (fun t => t.status.flag .pktValid) = some false ∧
    (after (exec .scanInit { State.reset with capLen := 512 })).map (fun t => t.status.scanState) = some .idle := by
  decide +kernel

theorem test_wit_CommandsWriteOnlyTheirRegisters :
    exec .nop State.reset = .next (State.reset.withOutcome .ok 0) ∧ RegName.packet ∉ mayWrite .nop ∧
    RegName.packet ≠ .err ∧ RegName.packet ≠ .errInfo := ⟨rfl, by decide, by decide, by decide⟩

theorem test_wit_PacketChangesOnlyByWritePacket :
    (after (exec .softReset (withPacket packet5))).map (fun t => decide (t.packet ≠ packet5)) = some true ∧
    (after (exec .loadShort (withPacket packet5))).map (fun t => decide (t.packet ≠ packet5)) = some true := by
  decide +kernel

theorem test_wit_NotReadyExactlyWhenUnmet :
    unmetMask .decode State.reset = 3 ∧ unmetMask .decode (withLayout (withPacket packet5) 64) = 0 ∧
    (after (exec .decode (withLayout (withPacket packet5) 64))).isSome = true := by decide +kernel

theorem test_wit_OnlyLoadShortReadsWireIn :
    Instr.nop ≠ .loadShort ∧ exec .nop State.reset = .next (State.reset.withOutcome .ok 0) ∧
    Instr.scanStep ≠ .loadShort ∧
    exec .scanStep (scanning { State.reset with capLen := 1 } .idle 0) = .fault (.capByteUnwritten 0) :=
  ⟨by decide, rfl, by decide, rfl⟩

/-- EveryStepKeepsTheInvariant: a step from a state of the invariant that decodes a bit. -/
theorem test_wit_EveryStepKeepsTheInvariant : Inv acceptedState ∧ ∃ t, step acceptedState = .next t :=
  ⟨test_wit_Inv_accepted, next_of_after (by decide +kernel)⟩

/-- OnlyAnUnwrittenSampleStopsTheMachine: a state of the invariant whose step stops. -/
theorem test_wit_OnlyAnUnwrittenSampleStopsTheMachine :
    Inv unwrittenState ∧ step unwrittenState = .fault (.capByteUnwritten 0) := ⟨test_wit_Inv_unwritten, rfl⟩

theorem test_wit_EveryCommandCompletesOnAWrittenCapture :
    Inv acceptedState ∧ ∀ a, a < acceptedState.capLen.toNat → Memory.read acceptedState.cap a ≠ none :=
  ⟨test_wit_Inv_accepted, fun a h => acceptedState_written a (by
    have hc : acceptedState.capLen.toNat = 512 := by decide +kernel
    omega)⟩

/-- HostReadsHaveNoEffect: a state for each kind of read, at the edges of each range. -/
theorem test_wit_HostReadsHaveNoEffect :
    { State.reset with host := [.readReg 0x3F] }.host = .readReg 0x3F :: [] ∧
    { State.reset with host := [.readCap 1024] }.host = .readCap 1024 :: [] ∧ State.reset.capSize.bytes ≤ 1024 ∧
    { State.reset with host := [.readCap 1023] }.host = .readCap 1023 :: [] ∧ 1023 < State.reset.capSize.bytes ∧
    Memory.read [(1023, 0x5A)] 1023 = some 0x5A ∧
    { State.reset with host := [.readWireIn 31] }.host = .readWireIn 31 :: [] ∧
    { State.reset with host := [.readWireOut 32] }.host = .readWireOut 32 :: [] ∧ (31 < 32 ∧ 32 ≤ 32) :=
  ⟨rfl, rfl, by decide, rfl, by decide, rfl, rfl, rfl, by decide⟩

/-- HostRegisterWritesStore: a register that may be written, CAP_LEN, a read-only one, and an unassigned index. -/
theorem test_wit_HostRegisterWritesStore :
    { State.reset with host := [.writeReg 0x04 5000] }.host = .writeReg 0x04 5000 :: [] ∧
    (regAt 0x04 = some .capLen ∧ (regRow .capLen).access = .rw) ∧
    (regAt 0x10 = some .pushVal ∧ (regRow .pushVal).access = .rw) ∧
    (regAt 0x0D = some .packet ∧ (regRow .packet).access = .r) ∧ regAt 0x3F ≠ some .cmd ∧ regAt 0x04 ≠ some .packet :=
  ⟨rfl, by decide, by decide, by decide, by decide, by decide⟩

theorem test_wit_HostByteWritesStore :
    { State.reset with host := [.writeCap 1024 0x5A] }.host = .writeCap 1024 0x5A :: [] ∧
    { State.reset with host := [.writeWireIn 31 0x5A] }.host = .writeWireIn 31 0x5A :: [] ∧
    { State.reset with host := [.writeWireOut 0 0x5A] }.host = .writeWireOut 0 0x5A :: [] := ⟨rfl, rfl, rfl⟩

theorem test_wit_PowerOnResetZeroesTheBlock :
    { withPacket packet5 with host := [.powerOnReset, .readReg 0x0D] }.host =
      .powerOnReset :: [.readReg 0x0D] := rfl

end Sys2Proof.Tests
end

/-! PROOFS. The wire form of a packet: `fromBytes` one byte at a time, and its inverse `toBytes`
(spec/20_memory.md R65, R66). -/

namespace Sys2Proof.Machine

/-! ### One byte shifted in below a word -/

theorem extractLsb'_zero_shiftInByte (acc : Word256) (b : Byte) :
    ((acc <<< 8) ||| b.setWidth 256).extractLsb' 0 8 = b := by
  refine BitVec.eq_of_getLsbD_eq fun i hi => ?_
  have hi256 : i < 256 := by omega
  simp [hi, hi256]

theorem extractLsb'_succ_shiftInByte (acc : Word256) (b : Byte) (k : Nat) (hk : k + 1 < 32) :
    ((acc <<< 8) ||| b.setWidth 256).extractLsb' (8 * (k + 1)) 8 = acc.extractLsb' (8 * k) 8 := by
  refine BitVec.eq_of_getLsbD_eq fun i hi => ?_
  have hlow : ¬ 8 * (k + 1) + i < 8 := by omega
  have hin : 8 * (k + 1) + i < 256 := by omega
  have hbit : 8 * (k + 1) + i - 8 = 8 * k + i := by omega
  have hb : b.getLsbD (8 * (k + 1) + i) = false := BitVec.getLsbD_of_ge b _ (by omega)
  rw [BitVec.getLsbD_extractLsb', BitVec.getLsbD_or, BitVec.getLsbD_shiftLeft, BitVec.getLsbD_setWidth, hbit, hb,
    BitVec.getLsbD_extractLsb']
  simp only [hlow, hin, decide_true, decide_false, Bool.not_false, Bool.true_and, Bool.and_false, Bool.or_false]

theorem toNat_shiftInByte (acc : Word256) (b : Byte) (hacc : acc.toNat < 2 ^ 248) :
    ((acc <<< 8) ||| b.setWidth 256).toNat = acc.toNat * 2 ^ 8 + b.toNat := by
  have hshift : acc.toNat <<< 8 % 2 ^ 256 = acc.toNat <<< 8 := by
    rw [Nat.shiftLeft_eq]; exact Nat.mod_eq_of_lt (by omega)
  rw [BitVec.toNat_or, BitVec.toNat_shiftLeft, hshift, BitVec.toNat_setWidth_of_le (by decide),
    ← Nat.shiftLeft_add_eq_or_of_lt b.isLt, Nat.shiftLeft_eq]

/-! ### `fromBytes` -/

@[simp] theorem fromBytes_nil : fromBytes [] = 0 := rfl

theorem fromBytes_concat (bytes : List Byte) (b : Byte) :
    fromBytes (bytes ++ [b]) = (fromBytes bytes <<< 8) ||| b.setWidth 256 := by
  simp [fromBytes]

/-- Byte `k` from the low end is the `k`-th byte from the end of the wire form. -/
theorem extractLsb'_fromBytes (bytes : List Byte) :
    ∀ k, k < 32 → (fromBytes bytes).extractLsb' (8 * k) 8 = bytes.reverse.getD k 0 := by
  induction bytes using List.reverseRecOn with
  | nil => simp
  | append_singleton bytes b ih =>
    intro k hk
    rw [fromBytes_concat]
    cases k with
    | zero => simpa using extractLsb'_zero_shiftInByte (fromBytes bytes) b
    | succ k => simpa using (extractLsb'_succ_shiftInByte (fromBytes bytes) b k hk).trans (ih k (by omega))

/-- The value that R66 gives to bytes in wire order: the last byte weighs 1, and each earlier one 256 times the next. -/
def wireValue (bytes : List Byte) : Nat :=
  ((List.range bytes.length).map fun j => (bytes.getD j 0).toNat * 2 ^ (8 * (bytes.length - 1 - j))).sum

theorem wireValue_concat (bytes : List Byte) (b : Byte) :
    wireValue (bytes ++ [b]) = wireValue bytes * 2 ^ 8 + b.toNat := by
  have hterm : ∀ j ∈ List.range bytes.length,
      ((bytes ++ [b]).getD j 0).toNat * 2 ^ (8 * (bytes.length - j)) =
        (bytes.getD j 0).toNat * 2 ^ (8 * (bytes.length - 1 - j)) * 2 ^ 8 := by
    intro j hj
    have hj : j < bytes.length := List.mem_range.mp hj
    have hexp : 8 * (bytes.length - j) = 8 * (bytes.length - 1 - j) + 8 := by omega
    rw [List.getD_append _ _ _ _ hj, hexp, pow_add, mul_assoc]
  have hlast : (bytes ++ [b]).getD bytes.length 0 = b := by simp
  simp only [wireValue, List.length_append, List.length_singleton, List.sum_range_succ, Nat.add_sub_cancel,
    List.map_congr_left hterm, List.sum_map_mul_right, hlast, Nat.sub_self, Nat.mul_zero, pow_zero, mul_one]

theorem wireValue_lt (bytes : List Byte) : wireValue bytes < 2 ^ (8 * bytes.length) := by
  induction bytes using List.reverseRecOn with
  | nil => simp [wireValue]
  | append_singleton bytes b ih =>
    have hb := b.isLt
    rw [wireValue_concat, List.length_append, List.length_singleton, Nat.mul_add, pow_add]
    omega

/-- Up to 32 bytes no shift loses a bit, so the packet's value is the weighted sum. -/
theorem toNat_fromBytes (bytes : List Byte) : bytes.length ≤ 32 → (fromBytes bytes).toNat = wireValue bytes := by
  induction bytes using List.reverseRecOn with
  | nil => intro _; rfl
  | append_singleton bytes b ih =>
    intro hlen
    rw [List.length_append, List.length_singleton] at hlen
    have hval := ih (by omega)
    have hfit : (fromBytes bytes).toNat < 2 ^ 248 :=
      calc (fromBytes bytes).toNat = wireValue bytes := hval
        _ < 2 ^ (8 * bytes.length) := wireValue_lt bytes
        _ ≤ 2 ^ 248 := Nat.pow_le_pow_right (by decide) (by omega)
    rw [fromBytes_concat, toNat_shiftInByte _ _ hfit, hval, wireValue_concat]

/-! ### `toBytes` and the two inverses -/

@[simp] theorem length_toBytes (p : Word256) : (toBytes p).length = 32 := by
  simp [toBytes, pktBytes]

theorem getElem_toBytes (p : Word256) (j : Nat) (hj : j < (toBytes p).length) :
    (toBytes p)[j] = wireByte p j := by
  simp [toBytes]

/-- Bit `i` of a packet lies in byte `31 − i / 8` of its wire form, at place `i % 8`. -/
theorem getLsbD_eq_wireByte (p : Word256) (i : Nat) (hi : i < 256) :
    p.getLsbD i = (wireByte p (31 - i / 8)).getLsbD (i % 8) := by
  have hplace : 248 - 8 * (31 - i / 8) + i % 8 = i := by omega
  rw [wireByte, BitVec.getLsbD_extractLsb', hplace, decide_eq_true (Nat.mod_lt i (by decide)), Bool.true_and]

theorem toBytes_injective : Function.Injective toBytes := by
  intro p q h
  have hbyte : ∀ j, j < 32 → wireByte p j = wireByte q j := by
    intro j hj
    have hget : (toBytes p)[j]? = (toBytes q)[j]? := by rw [h]
    simpa [toBytes, pktBytes, hj] using hget
  refine BitVec.eq_of_getLsbD_eq fun i hi => ?_
  rw [getLsbD_eq_wireByte p i hi, getLsbD_eq_wireByte q i hi, hbyte _ (by omega)]

theorem toBytes_fromBytes (bytes : List Byte) (hlen : bytes.length = 32) : toBytes (fromBytes bytes) = bytes := by
  refine List.ext_getElem (by simp [hlen]) fun j hj hj' => ?_
  have hstart : 248 - 8 * j = 8 * (31 - j) := by omega
  have hrev : bytes.length - 1 - (31 - j) = j := by omega
  rw [getElem_toBytes, wireByte, hstart, extractLsb'_fromBytes bytes (31 - j) (by omega),
    List.getD_eq_getElem _ _ (by simp; omega), List.getElem_reverse]
  simp only [hrev]

theorem fromBytes_toBytes (p : Word256) : fromBytes (toBytes p) = p :=
  toBytes_injective (toBytes_fromBytes (toBytes p) (length_toBytes p))

/-- Settles O55: the weights by induction on the bytes from the last one, `to_bytes ∘ from_bytes` byte by byte, and the
other inverse from it, since a packet is determined by its bytes. -/
theorem wireFormIsInvertible : Obligations.WireFormIsInvertible := by
  refine ⟨fun bytes => ?_, fromBytes_toBytes, fun bytes => toBytes_fromBytes _ bytes.length_toList⟩
  have hlen : bytes.toList.length = 32 := bytes.length_toList
  rw [toNat_fromBytes _ hlen.le, wireValue, hlen]

end Sys2Proof.Machine

/-! PROOFS. The bit-slice and byte-order commands: their words, the natural-number forms of `slice` and `push`, and
their outcomes (spec/41_bitslice_byteorder.md R120, R121, R123 to R125, spec/42_crc16.md R143). -/

namespace Sys2Proof.Machine

/-! ### The words of SLICE and PUSH -/

theorem decode_encode_slice (shift width : BitVec 9) : decode (encode (.slice shift width)) = .ok (.slice shift width) := by
  obtain ⟨hop, ha, hb, hrsv⟩ := Laws.encode_fields (.slice shift width)
  simp [decode, hop, ha, hb, hrsv, Instr.opcode, Instr.operandA, Instr.operandB]

theorem decode_encode_push (width : BitVec 9) : decode (encode (.push width)) = .ok (.push width) := by
  obtain ⟨hop, ha, hb, hrsv⟩ := Laws.encode_fields (.push width)
  simp [decode, decodePush, hop, ha, hb, hrsv, Instr.opcode, Instr.operandA, Instr.operandB]

theorem encode_slice (shift width : BitVec 9) :
    encode (.slice shift width) = 0x11 ||| (shift.setWidth 32 <<< 8) ||| (width.setWidth 32 <<< 17) := rfl

/-- PUSH's B field is 0, so its word ends at A. -/
theorem encode_push (width : BitVec 9) : encode (.push width) = 0x13 ||| (width.setWidth 32 <<< 8) := by
  simp [encode, commandWord, Instr.opcode, Instr.operandA, Instr.operandB]

/-! ### `slice` and `push` as arithmetic -/

theorem slice_eq_div_mod (p : Word256) (shift width : Nat) :
    slice p shift width = p.toNat / 2 ^ shift % 2 ^ width := by
  rw [slice, mask, Nat.and_two_pow_sub_one_eq_mod, Nat.shiftRight_eq_div_pow]

/-- A slice of a packet fits the 256 bits of SLICE_OUT, whatever the width. -/
theorem slice_lt_two_pow_256 (p : Word256) (shift width : Nat) : slice p shift width < 2 ^ 256 := by
  rw [slice_eq_div_mod]
  calc p.toNat / 2 ^ shift % 2 ^ width ≤ p.toNat / 2 ^ shift := Nat.mod_le _ _
    _ ≤ p.toNat := Nat.div_le_self _ _
    _ < 2 ^ 256 := p.isLt

theorem fits_iff (value : Word256) (width : Nat) : fits value width = true ↔ value.toNat < 2 ^ width :=
  decide_eq_true_iff

/-- A value that fits is not masked, and lands in the bits that the shift left free. -/
theorem pushField_of_lt (acc : Word256) {value : Word256} {width : Nat} (h : value.toNat < 2 ^ width) :
    pushField acc value width = BitVec.ofNat 256 (acc.toNat * 2 ^ width + value.toNat) := by
  rw [pushField, mask, Nat.and_two_pow_sub_one_eq_mod, Nat.mod_eq_of_lt h, ← Nat.shiftLeft_add_eq_or_of_lt h,
    Nat.shiftLeft_eq]

/-! ### The outcomes -/

theorem exec_slice_of_packet (shift width : BitVec 9) {s : State} (h : s.status.pktValid = true) :
    exec (.slice shift width) s =
      .next { s with sliceOut := BitVec.ofNat 256 (slice s.packet shift.toNat width.toNat), err := .ok, errInfo := 0 } := by
  rw [exec_eq_conclude, commandResult, needPacket_of_valid h, conclude_done, State.withOutcome]

theorem exec_slice_of_no_packet (shift width : BitVec 9) {s : State} (h : s.status.pktValid = false) :
    exec (.slice shift width) s = .next { s with err := .notReady, errInfo := 1 } := by
  rw [exec_eq_conclude, commandResult, needPacket_of_not_valid h, conclude_raised, State.withOutcome]

theorem exec_push_of_lt {width : BitVec 9} {s : State} (h : s.pushVal.toNat < 2 ^ width.toNat) :
    exec (.push width) s =
      .next { s with pushAcc := pushField s.pushAcc s.pushVal width.toNat, err := .ok, errInfo := 0 } := by
  rw [exec_eq_conclude, commandResult, if_pos ((fits_iff _ _).mpr h), conclude_done, State.withOutcome]

theorem exec_push_of_le {width : BitVec 9} {s : State} (h : 2 ^ width.toNat ≤ s.pushVal.toNat) :
    exec (.push width) s = .next { s with err := .fieldOutOfRange, errInfo := 0x8000 } := by
  rw [exec_eq_conclude, commandResult, if_neg (mt (fits_iff _ _).mp h.not_gt), conclude_raised, State.withOutcome]

theorem exec_pushClear (s : State) : exec .pushClear s = .next { s with pushAcc := 0, err := .ok, errInfo := 0 } := by
  rw [exec_eq_conclude, commandResult, conclude_done, State.withOutcome]

theorem exec_crcClear (s : State) : exec .crcClear s = .next { s with crc := 0x0000, err := .ok, errInfo := 0 } := by
  rw [exec_eq_conclude, commandResult, conclude_done, State.withOutcome, crcInit]

/-! ### The obligations -/

/-- Settles O11: the word decodes field by field, and the slice of a held packet is stored whole, as it is below
2^256. -/
theorem sliceExtractsTheField : Obligations.SliceExtractsTheField := by
  refine fun shift width => ⟨encode_slice shift width ▸ decode_encode_slice shift width, fun s =>
    ⟨exec_slice_of_no_packet shift width, fun hpkt => ⟨_, exec_slice_of_packet shift width hpkt, ?_, rfl⟩⟩⟩
  calc (BitVec.ofNat 256 (slice s.packet shift.toNat width.toNat)).toNat
      = slice s.packet shift.toNat width.toNat := Nat.mod_eq_of_lt (slice_lt_two_pow_256 _ _ _)
    _ = s.packet.toNat / 2 ^ shift.toNat % 2 ^ width.toNat := slice_eq_div_mod _ _ _

/-- Settles O14: the word decodes field by field, and PUSH_VAL fits A bits or does not. -/
theorem pushAppendsOrRejects : Obligations.PushAppendsOrRejects := by
  refine fun width s => ⟨encode_push width ▸ decode_encode_push width, fun hfits => ?_, exec_push_of_le⟩
  rw [exec_push_of_lt hfits, pushField_of_lt s.pushAcc hfits]

/-- Settles O13: both words are closed, so the decoder runs on them; the rest is the two commands' outcomes. -/
theorem clearsZeroTheirAccumulator : Obligations.ClearsZeroTheirAccumulator :=
  ⟨rfl, rfl, fun s => ⟨exec_pushClear s, exec_crcClear s⟩⟩

end Sys2Proof.Machine

/-! PROOFS. The burst locator one command at a time: SCAN_INIT's clears, and a scan step on a sample that the core can
read, by SCAN_STATE and the sample's value (spec/43_burst_locator.md R161 to R167). -/

namespace Sys2Proof.Machine

/-! ### A step that has a sample -/

/-- SCAN_POS moved past the sample that was read (43_burst_locator.md R165). -/
def pastSample (s : State) : State := { s with scanPos := s.scanPos + 1 }

@[simp] theorem pastSample_status (s : State) : (pastSample s).status = s.status := rfl

/-- Below CAP_LEN a step takes the sample it reads, with SCAN_POS already past it. -/
theorem scanOnce_of_hasSample {s : State} {one : Bool} (hlen : s.scanPos.toNat < s.capLen.toNat)
    (hsample : hasSample s s.scanPos.toNat one) : scanOnce s = takeSample s.scanPos one (pastSample s) := by
  obtain ⟨hcap, b, hread, rfl⟩ := hsample
  have hok : capRead s s.scanPos.toNat = .ok b := (capRead_ok_iff _ _ _).mpr ⟨hcap, hread⟩
  rcases scanOnce_cases s with ⟨hend, _⟩ | ⟨_, f, herr, _⟩ | ⟨_, b', hok', htake⟩
  · omega
  · cases hok.symm.trans herr
  · cases hok.symm.trans hok'
    exact htake

/-- SCAN_STEP with a scan under way and a sample to read is that sample's effect and the shared end. -/
theorem exec_scanStep_of_hasSample {s : State} {one : Bool} (hscan : s.status.scanState.scanning = true)
    (hlen : s.scanPos.toNat < s.capLen.toNat) (hsample : hasSample s s.scanPos.toNat one) :
    exec .scanStep s = conclude (takeSample s.scanPos one (pastSample s)) := by
  rw [exec_eq_conclude, commandResult, needScanning_of_scanning hscan, scanOnce_of_hasSample hlen hsample]

theorem exec_scanStep_idle {s : State} {one : Bool} (hstate : s.status.scanState = .idle)
    (hlen : s.scanPos.toNat < s.capLen.toNat) (hsample : hasSample s s.scanPos.toNat one) :
    exec .scanStep s = conclude (.done (idleSample s.scanPos one (pastSample s))) := by
  rw [exec_scanStep_of_hasSample ((scanning_iff _).mpr (.inl hstate)) hlen hsample]
  simp only [takeSample, pastSample_status, hstate]

theorem exec_scanStep_inBurst {s : State} {one : Bool} (hstate : s.status.scanState = .inBurst)
    (hlen : s.scanPos.toNat < s.capLen.toNat) (hsample : hasSample s s.scanPos.toNat one) :
    exec .scanStep s = conclude (if one then .done (burstOne (pastSample s)) else burstZero (pastSample s)) := by
  rw [exec_scanStep_of_hasSample ((scanning_iff _).mpr (.inr hstate)) hlen hsample]
  simp only [takeSample, pastSample_status, hstate]

/-! ### Counting in a candidate -/

/-- The two-bit counters reach RUN_LIMIT from 2 alone, also with the wrap at 3. -/
theorem succ_eq_runLimit_iff (count : BitVec 2) : (count + 1).toNat = runLimit ↔ count = 2 := by
  rw [runLimit]
  bv_omega

/-- What a 1 sample counts (43_burst_locator.md R162). -/
def oneCounted (s : State) : State :=
  { s with runLength := s.runLength + 1, consecOnes := s.consecOnes + 1, consecZeros := 0 }

/-- What a 0 sample counts (43_burst_locator.md R163). -/
def zeroCounted (s : State) : State :=
  { s with runLength := s.runLength + 1, consecZeros := s.consecZeros + 1, consecOnes := 0 }

/-- The close overwrites whatever the third 1 counted. -/
theorem burstOne_of_third {s : State} (h : s.consecOnes = 2) : burstOne s = closeCandidate s :=
  if_pos ((succ_eq_runLimit_iff _).mpr h)

theorem burstOne_of_not_third {s : State} (h : s.consecOnes ≠ 2) : burstOne s = oneCounted s :=
  if_neg (mt (succ_eq_runLimit_iff _).mp h)

theorem burstZero_of_third {s : State} (h : s.consecZeros = 2) : burstZero s = evaluateBurst (zeroCounted s) :=
  if_pos ((succ_eq_runLimit_iff _).mpr h)

theorem burstZero_of_not_third {s : State} (h : s.consecZeros ≠ 2) : burstZero s = .done (zeroCounted s) :=
  if_neg (mt (succ_eq_runLimit_iff _).mp h)

/-! ### The evaluation of a candidate -/

/-- The window's open ends 510 and 518 as the lengths it holds. -/
theorem inAcceptWindow_iff (runLength : Nat) : inAcceptWindow runLength = true ↔ 511 ≤ runLength ∧ runLength ≤ 517 := by
  simp only [inAcceptWindow, Bool.and_eq_true, decide_eq_true_eq]
  omega

theorem evaluateBurst_outside {s : State} (hwin : ¬ (511 ≤ s.runLength.toNat ∧ s.runLength.toNat ≤ 517)) :
    evaluateBurst s = .done (closeCandidate s) :=
  if_neg (mt (inAcceptWindow_iff _).mp hwin)

/-- No sample stands before index 0, so the decoder would have none to begin at (43_burst_locator.md R164). -/
theorem evaluateBurst_at_zero {s : State} (hwin : 511 ≤ s.runLength.toNat ∧ s.runLength.toNat ≤ 517)
    (hstart : s.runStart = 0) :
    evaluateBurst s =
      .raised .burstNotFound 1 { s with status := { s.status with scanState := .notFound } } := by
  rw [evaluateBurst, if_pos ((inAcceptWindow_iff _).mpr hwin), if_pos hstart]

theorem evaluateBurst_accepts {s : State} (hwin : 511 ≤ s.runLength.toNat ∧ s.runLength.toNat ≤ 517)
    (hstart : s.runStart ≠ 0) :
    evaluateBurst s =
      .done { s with status := { s.status with scanState := .accepted }, burstOffset := s.runStart - 1, mdecCount := 0,
                     mdecAcc := 0 } := by
  rw [evaluateBurst, if_pos ((inAcceptWindow_iff _).mpr hwin), if_neg hstart]

/-! ### The obligations -/

/-- Settles O24: on the third 0 the run counted so far is evaluated, and its length and start decide among the three
ends; on an earlier 0 it is counted only. -/
theorem scanStepInBurstOnZero : Obligations.ScanStepInBurstOnZero := by
  intro s hstate hlen _ _ hsample
  rw [exec_scanStep_inBurst hstate hlen hsample, if_neg Bool.false_ne_true]
  extract_lets counted
  split_ifs with hcount hwin hstart
  · rw [burstZero_of_not_third (s := pastSample s) hcount]; rfl
  all_goals rw [burstZero_of_third (s := pastSample s) (not_not.mp hcount)]
  · rw [evaluateBurst_at_zero (s := zeroCounted (pastSample s)) hwin hstart]; rfl
  · rw [evaluateBurst_accepts (s := zeroCounted (pastSample s)) hwin hstart]; rfl
  · rw [evaluateBurst_outside (s := zeroCounted (pastSample s)) hwin]; rfl

/-- Settles O23: the third 1 closes the candidate, an earlier one is counted. -/
theorem scanStepInBurstOnOne : Obligations.ScanStepInBurstOnOne := by
  intro s hstate hlen _ _ hsample
  rw [exec_scanStep_inBurst hstate hlen hsample, if_pos rfl]
  split_ifs with hcount
  · rw [burstOne_of_third (s := pastSample s) hcount]; rfl
  · rw [burstOne_of_not_third (s := pastSample s) hcount]; rfl

/-- Settles O22: the sample's two values. -/
theorem scanStepInIdle : Obligations.ScanStepInIdle := by
  intro s one hstate hlen hsample
  rw [exec_scanStep_idle hstate hlen hsample]
  cases one with
  | true => rfl
  | false => rfl

/-- Settles O21: the word is closed, so the decoder runs on it, and the clears end by CAP_LEN's side of 512. -/
theorem scanInitStartsOrRejects : Obligations.ScanInitStartsOrRejects := by
  refine ⟨rfl, fun s => ?_⟩
  rw [exec_eq_conclude, commandResult]
  rcases startScan_cases s with ⟨hshort, hres⟩ | ⟨hlong, hres⟩
  · simp only [hres, if_pos hshort]; rfl
  · simp only [hres, if_neg hlong.not_gt]; rfl

end Sys2Proof.Machine

/-! PROOFS. The field layout resolver: its tests as arithmetic, its four outcomes, and the two commands that only
resolve (spec/44_layout_resolver.md R200 to R206). -/

namespace Sys2Proof.Machine

/-! ### The tests -/

theorem knownAgency_iff (a : Nat) : knownAgency a = true ↔ a = 10 ∨ a = 31 := by
  simp [knownAgency, knownAgencies]

theorem legalDivider_iff (d : Nat) : legalDivider d = true ↔ 48 ≤ d ∧ d ≤ 184 ∧ d % 8 = 0 := by
  simp [legalDivider, and_assoc]

theorem override_of_ctl_eq_zero {s : State} (h : s.overrideCtl = 0) : s.override = none := by
  rw [State.override, h, if_neg (by decide)]

/-- OVERRIDE_CTL has one bit, so a value other than 0 supplies the override. -/
theorem override_of_ctl_ne_zero {s : State} (h : s.overrideCtl ≠ 0) : s.override = some s.overrideDivider.toNat :=
  if_pos ((BitVec.eq_zero_or_eq_one s.overrideCtl).resolve_left h)

theorem packetAgency_eq_bitRange (p : Word256) : packetAgency p = bitRange p 239 233 := slice_eq_div_mod p 233 7

/-! ### The four outcomes of `resolve`, in the order of its tests -/

/-- A known agency never looks at the override. -/
theorem resolveLayout_of_known {a : Nat} (h : a = 10 ∨ a = 31) (ov : Option Nat) :
    resolveLayout a ov = .ok (.known 64) :=
  if_pos ((knownAgency_iff a).mpr h)

theorem resolveLayout_none {a : Nat} (h : ¬ (a = 10 ∨ a = 31)) : resolveLayout a none = .ok .unknown :=
  if_neg (mt (knownAgency_iff a).mp h)

theorem resolveLayout_of_legal {a d : Nat} (h : ¬ (a = 10 ∨ a = 31)) (hd : 48 ≤ d ∧ d ≤ 184 ∧ d % 8 = 0) :
    resolveLayout a (some d) = .ok (.known d) := by
  rw [resolveLayout, if_neg (mt (knownAgency_iff a).mp h)]
  exact if_pos ((legalDivider_iff d).mpr hd)

theorem resolveLayout_of_illegal {a d : Nat} (h : ¬ (a = 10 ∨ a = 31)) (hd : ¬ (48 ≤ d ∧ d ≤ 184 ∧ d % 8 = 0)) :
    resolveLayout a (some d) = .error d := by
  rw [resolveLayout, if_neg (mt (knownAgency_iff a).mp h)]
  exact if_neg (mt (legalDivider_iff d).mp hd)

/-! ### ApplyResolve and the commands -/

/-- ApplyResolve with the shared end is R204's register effect, whichever test decides. -/
theorem conclude_applyResolve (a : Nat) (s : State) : conclude (applyResolve a s) = .next (resolvedState a s) := by
  unfold resolvedState
  extract_lets d
  split_ifs with hknown hctl hlegal
  · rw [applyResolve, resolveLayout_of_known hknown]; rfl
  · rw [applyResolve, override_of_ctl_eq_zero hctl, resolveLayout_none hknown]; rfl
  · have hdivider : BitVec.ofNat 16 d = s.overrideDivider := (BitVec.ofNat_toNat ..).trans (BitVec.setWidth_eq _)
    rw [applyResolve, override_of_ctl_ne_zero hctl, resolveLayout_of_legal hknown hlegal]
    simp only [writeLayout, hdivider]; rfl
  · have hinfo : BitVec.ofNat 32 d = s.overrideDivider.setWidth 32 := BitVec.ofNat_toNat ..
    rw [applyResolve, override_of_ctl_ne_zero hctl, resolveLayout_of_illegal hknown hlegal, ← hinfo]; rfl

theorem exec_resolve (s : State) : exec .resolve s = .next (resolvedState s.agencyIn.toNat s) := by
  rw [exec_eq_conclude, commandResult, conclude_applyResolve]

theorem exec_resolvePkt_of_no_packet {s : State} (h : s.status.pktValid = false) :
    exec .resolvePkt s = .next { s with err := .notReady, errInfo := 1 } := by
  rw [exec_eq_conclude, commandResult, needPacket_of_not_valid h, conclude_raised, State.withOutcome]

theorem exec_resolvePkt_of_packet {s : State} (h : s.status.pktValid = true) :
    exec .resolvePkt s = .next (resolvedState (bitRange s.packet 239 233) s) := by
  rw [exec_eq_conclude, commandResult, needPacket_of_valid h, conclude_applyResolve, packetAgency_eq_bitRange]

/-- Settles O37: both words are closed, so the decoder runs on them; the rest is the two commands' outcomes. -/
theorem resolveFollowsItsTests : Obligations.ResolveFollowsItsTests :=
  ⟨rfl, rfl, fun s => ⟨exec_resolve s, exec_resolvePkt_of_no_packet, exec_resolvePkt_of_packet⟩⟩

end Sys2Proof.Machine

/-! PROOFS. The command word both ways: a legal word is its command's encoding, and the opcode table's rows are the
legal words (spec/30_encoding.md R90 to R93). -/

namespace Sys2Proof.Machine

/-! ### A word and its four fields -/

/-- A word is determined by its fields (30_encoding.md R90). -/
theorem word_ext {w v : Word32} (hop : fieldOp w = fieldOp v) (ha : fieldA w = fieldA v) (hb : fieldB w = fieldB v)
    (hrsv : fieldRsv w = fieldRsv v) : w = v := by
  have bit {n : Nat} {start k : Nat} (h : w.extractLsb' start n = v.extractLsb' start n) (hlo : start ≤ k)
      (hhi : k < start + n) : w.getLsbD k = v.getLsbD k := by
    have hbit := congrArg (BitVec.getLsbD · (k - start)) h
    simpa [BitVec.getLsbD_extractLsb', Nat.add_sub_cancel' hlo, show k - start < n by omega] using hbit
  refine BitVec.eq_of_getLsbD_eq fun k hk => ?_
  rcases Nat.lt_or_ge k 8 with h8 | h8
  · exact bit hop (Nat.zero_le k) h8
  rcases Nat.lt_or_ge k 17 with h17 | h17
  · exact bit ha h8 h17
  rcases Nat.lt_or_ge k 26 with h26 | h26
  · exact bit hb h17 h26
  · exact bit hrsv h26 hk

theorem commandWord_fields {w : Word32} (h : fieldRsv w = 0) : commandWord (fieldOp w) (fieldA w) (fieldB w) = w :=
  word_ext (fieldOp_commandWord _ _ _) (fieldA_commandWord _ _ _) (fieldB_commandWord _ _ _)
    ((fieldRsv_commandWord _ _ _).trans h.symm)

/-! ### Decode after encode -/

theorem decode_encode_crcByte {a : BitVec 9} (h : a.getLsbD 8 = false) :
    decode (encode (.crcByte a)) = .ok (.crcByte a) := by
  obtain ⟨hop, ha, hb, hrsv⟩ := Laws.encode_fields (.crcByte a)
  simpa [decode, decodeCrcByte, hop, ha, hb, hrsv, Instr.opcode, Instr.operandA, Instr.operandB] using h

/-- Settles O1: the three commands with operands decode field by field; the word of any other is closed, so the decoder
runs on it. -/
theorem encodeThenDecodeReturnsCommand : Obligations.EncodeThenDecodeReturnsCommand := by
  intro i hwf
  cases i with
  | slice shift width => exact decode_encode_slice shift width
  | push width => exact decode_encode_push width
  | crcByte a => exact decode_encode_crcByte (by simpa [Instr.wellFormed] using hwf)
  | _ => rfl

/-! ### Encode after decode -/

/-- The fields of a word are those of a command that a legal word can carry. -/
def carries (w : Word32) (i : Instr) : Prop :=
  fieldOp w = i.opcode ∧ fieldA w = i.operandA ∧ fieldB w = i.operandB ∧ i.wellFormed = true

theorem carries_of_decodePlain {w : Word32} {i j : Instr} (h : decodePlain w i = .ok j) (hop : fieldOp w = i.opcode)
    (ha : i.operandA = 0) (hb : i.operandB = 0) (hwf : i.wellFormed = true) : carries w j := by
  unfold decodePlain at h
  split at h
  · next hab => cases h; exact ⟨hop, hab.1.trans ha.symm, hab.2.trans hb.symm, hwf⟩
  · cases h

theorem carries_of_decodePush {w : Word32} {j : Instr} (h : decodePush w = .ok j) (hop : fieldOp w = 0x13) :
    carries w j := by
  unfold decodePush at h
  split at h
  · next hb => cases h; exact ⟨hop, rfl, hb, rfl⟩
  · cases h

theorem carries_of_decodeCrcByte {w : Word32} {j : Instr} (h : decodeCrcByte w = .ok j) (hop : fieldOp w = 0x21) :
    carries w j := by
  unfold decodeCrcByte at h
  split_ifs at h with hb ha
  cases h
  exact ⟨hop, rfl, not_not.mp hb, by simpa [Instr.wellFormed] using ha⟩

/-- The decoder's tests, row by row of R93. -/
theorem carries_of_decode {w : Word32} {i : Instr} (h : decode w = .ok i) : fieldRsv w = 0 ∧ carries w i := by
  unfold decode at h
  split at h
  · cases h
  next hrsv =>
  refine ⟨not_not.mp hrsv, ?_⟩
  have op {n : Nat} (hn : (fieldOp w).toNat = n) : fieldOp w = BitVec.ofNat 8 n := by
    rw [← hn, BitVec.ofNat_toNat, BitVec.setWidth_eq]
  split at h <;> rename_i hn
  case h_4 => cases h; exact ⟨op hn, rfl, rfl, rfl⟩
  case h_6 => exact carries_of_decodePush h (op hn)
  case h_8 => exact carries_of_decodeCrcByte h (op hn)
  case h_23 => cases h
  all_goals exact carries_of_decodePlain h (op hn) rfl rfl rfl

theorem encode_of_carries {w : Word32} {i : Instr} (hrsv : fieldRsv w = 0) (h : carries w i) : encode i = w := by
  obtain ⟨hop, ha, hb, -⟩ := h
  rw [encode, ← hop, ← ha, ← hb, commandWord_fields hrsv]

theorem decode_of_carries {w : Word32} {i : Instr} (hrsv : fieldRsv w = 0) (h : carries w i) : decode w = .ok i := by
  obtain ⟨-, -, -, hwf⟩ := id h
  rw [← encode_of_carries hrsv h, encodeThenDecodeReturnsCommand i hwf]

/-- Settles O2: the fields that the decoder accepted are the command's, and a word is determined by its fields. -/
theorem decodeThenEncodeReturnsWord : Obligations.DecodeThenEncodeReturnsWord := by
  intro w i h
  obtain ⟨hrsv, hcarries⟩ := carries_of_decode h
  obtain ⟨-, -, -, hwf⟩ := id hcarries
  exact ⟨hwf, encode_of_carries hrsv hcarries⟩

/-! ### The opcode table -/

/-- A row's match and mask, field by field. -/
theorem matchesWord_iff (r : OpcodeRow) (w : Word32) :
    r.matchesWord w = true ↔
      fieldOp w &&& fieldOp r.mask = fieldOp r.value ∧ fieldA w &&& fieldA r.mask = fieldA r.value ∧
      fieldB w &&& fieldB r.mask = fieldB r.value ∧ fieldRsv w &&& fieldRsv r.mask = fieldRsv r.value := by
  simp only [OpcodeRow.matchesWord, beq_iff_eq]
  constructor
  · intro h
    rw [← h]
    simp [fieldOp, fieldA, fieldB, fieldRsv, BitVec.extractLsb'_and]
  · rintro ⟨hop, ha, hb, hrsv⟩
    apply word_ext <;> simpa [fieldOp, fieldA, fieldB, fieldRsv, BitVec.extractLsb'_and]

/-- Every row masks the whole opcode. -/
theorem fieldOp_of_matchesWord {r : OpcodeRow} {w : Word32} (hr : r ∈ opcodeTable) (h : r.matchesWord w = true) :
    fieldOp r.value = fieldOp w := by
  have hmask : ∀ r ∈ opcodeTable, fieldOp r.mask = BitVec.allOnes 8 := by decide
  have hop := ((matchesWord_iff r w).mp h).1
  rw [hmask r hr, BitVec.and_allOnes] at hop
  exact hop.symm

/-- No two rows have one opcode, so no two rows match one word. -/
theorem length_matching_le_one (w : Word32) : (opcodeTable.filter fun r => r.matchesWord w).length ≤ 1 := by
  have hdistinct : (opcodeTable.map fun r => fieldOp r.value).Nodup := by decide
  have hsame : (opcodeTable.filter fun r => r.matchesWord w).map (fun r => fieldOp r.value) =
      List.replicate (opcodeTable.filter fun r => r.matchesWord w).length (fieldOp w) := by
    rw [List.eq_replicate_iff]
    refine ⟨List.length_map _, fun op hop => ?_⟩
    obtain ⟨r, hr, rfl⟩ := List.mem_map.mp hop
    obtain ⟨hmem, hmatch⟩ := List.mem_filter.mp hr
    exact fieldOp_of_matchesWord hmem hmatch
  have hnodup := hdistinct.sublist (List.filter_sublist.map _ : List.Sublist
    ((opcodeTable.filter fun r => r.matchesWord w).map fun r => fieldOp r.value) _)
  rw [hsame] at hnodup
  exact List.nodup_replicate.mp hnodup

/-- The rows that leave operand bits free (30_encoding.md R93). -/
def sliceRow : OpcodeRow := ⟨"SLICE", 0x00000011, 0xFC0000FF⟩
def pushRow : OpcodeRow := ⟨"PUSH", 0x00000013, 0xFFFE00FF⟩
def crcByteRow : OpcodeRow := ⟨"CRC_BYTE", 0x00000021, 0xFFFF00FF⟩

theorem matchesWord_sliceRow (w : Word32) : sliceRow.matchesWord w = true ↔ fieldOp w = 0x11 ∧ fieldRsv w = 0 := by
  rw [matchesWord_iff]
  change fieldOp w &&& BitVec.allOnes 8 = 0x11 ∧ fieldA w &&& 0#9 = 0#9 ∧ fieldB w &&& 0#9 = 0#9 ∧
    fieldRsv w &&& BitVec.allOnes 6 = 0 ↔ _
  simp only [BitVec.and_allOnes, BitVec.and_zero, true_and]

theorem matchesWord_pushRow (w : Word32) :
    pushRow.matchesWord w = true ↔ fieldOp w = 0x13 ∧ fieldB w = 0 ∧ fieldRsv w = 0 := by
  rw [matchesWord_iff]
  change fieldOp w &&& BitVec.allOnes 8 = 0x13 ∧ fieldA w &&& 0#9 = 0#9 ∧ fieldB w &&& BitVec.allOnes 9 = 0 ∧
    fieldRsv w &&& BitVec.allOnes 6 = 0 ↔ _
  simp only [BitVec.and_allOnes, BitVec.and_zero, true_and]

/-- The row of CRC_BYTE masks bit 8 of A alone (30_encoding.md R92 item 4). -/
theorem matchesWord_crcByteRow (w : Word32) :
    crcByteRow.matchesWord w = true ↔
      fieldOp w = 0x21 ∧ (fieldA w).getLsbD 8 = false ∧ fieldB w = 0 ∧ fieldRsv w = 0 := by
  have hbit : fieldA w &&& BitVec.twoPow 9 8 = 0 ↔ (fieldA w).getLsbD 8 = false := by
    rw [BitVec.and_twoPow]
    cases (fieldA w).getLsbD 8 <;> decide
  rw [matchesWord_iff]
  change fieldOp w &&& BitVec.allOnes 8 = 0x21 ∧ fieldA w &&& BitVec.twoPow 9 8 = 0 ∧
    fieldB w &&& BitVec.allOnes 9 = 0 ∧ fieldRsv w &&& BitVec.allOnes 6 = 0 ↔ _
  simp only [BitVec.and_allOnes, hbit]

theorem exists_row_of_encode {i : Instr} (hwf : i.wellFormed = true) :
    ∃ r ∈ opcodeTable, r.matchesWord (encode i) = true := by
  obtain ⟨hop, ha, hb, hrsv⟩ := Laws.encode_fields i
  cases i with
  | slice shift width => exact ⟨sliceRow, by decide, (matchesWord_sliceRow _).mpr ⟨hop, hrsv⟩⟩
  | push width => exact ⟨pushRow, by decide, (matchesWord_pushRow _).mpr ⟨hop, hb, hrsv⟩⟩
  | crcByte a =>
    exact ⟨crcByteRow, by decide,
      (matchesWord_crcByteRow _).mpr ⟨hop, by simpa [ha, Instr.wellFormed, Instr.operandA] using hwf, hb, hrsv⟩⟩
  | _ => decide

/-- A row that masks the whole word matches one legal word, its value; the three other rows leave operands free. -/
theorem legal_of_matchesWord {r : OpcodeRow} {w : Word32} (hr : r ∈ opcodeTable) (h : r.matchesWord w = true) :
    ∃ i, decode w = .ok i := by
  have hrow : ∀ r ∈ opcodeTable, r.mask = BitVec.allOnes 32 ∧ (decode r.value).toBool = true ∨
      r = sliceRow ∨ r = pushRow ∨ r = crcByteRow := by decide
  rcases hrow r hr with ⟨hmask, hlegal⟩ | rfl | rfl | rfl
  · have hw : w = r.value := by simpa only [OpcodeRow.matchesWord, hmask, BitVec.and_allOnes, beq_iff_eq] using h
    rw [hw]
    cases hd : decode r.value with
    | ok i => exact ⟨i, rfl⟩
    | error why => rw [hd] at hlegal; cases hlegal
  · obtain ⟨hop, hrsv⟩ := (matchesWord_sliceRow w).mp h
    exact ⟨.slice (fieldA w) (fieldB w), decode_of_carries hrsv ⟨hop, rfl, rfl, rfl⟩⟩
  · obtain ⟨hop, hb, hrsv⟩ := (matchesWord_pushRow w).mp h
    exact ⟨.push (fieldA w), decode_of_carries hrsv ⟨hop, rfl, hb, rfl⟩⟩
  · obtain ⟨hop, ha, hb, hrsv⟩ := (matchesWord_crcByteRow w).mp h
    exact ⟨.crcByte (fieldA w), decode_of_carries hrsv ⟨hop, rfl, hb, by simp only [Instr.wellFormed, ha, Bool.not_false]⟩⟩

/-- Settles O3: a legal word is a command's encoding, so its row matches; a row that matches decodes; and no two rows
share an opcode. -/
theorem legalWordsAreTheTableRows : Obligations.LegalWordsAreTheTableRows := by
  intro w
  have hone := length_matching_le_one w
  refine ⟨⟨fun ⟨i, hi⟩ => ?_, fun hlen => ?_⟩, hone⟩
  · obtain ⟨hwf, rfl⟩ := decodeThenEncodeReturnsWord w i hi
    obtain ⟨r, hr, hmatch⟩ := exists_row_of_encode hwf
    have hpos := List.length_pos_of_mem (List.mem_filter (p := fun r => r.matchesWord (encode i)).mpr ⟨hr, hmatch⟩)
    omega
  · obtain ⟨r, hr⟩ := List.exists_mem_of_length_pos (hlen.symm ▸ Nat.one_pos)
    obtain ⟨hmem, hmatch⟩ := List.mem_filter.mp hr
    exact legal_of_matchesWord hmem hmatch

/-- Settles O4: the words are closed, so the decoder runs on them. -/
theorem listedWordsDecodeAsListed : Obligations.ListedWordsDecodeAsListed :=
  ⟨rfl, rfl, rfl, rfl, rfl, rfl, rfl, rfl, rfl, rfl⟩

end Sys2Proof.Machine

/-! PROOFS. What every command ignores: ERR, ERR_INFO and WIRE_IN are read by no command but LOAD_SHORT, so commands in a
row hand each other everything but the outcome (spec/20_memory.md R61, spec/60_exceptions.md R272). -/

namespace Sys2Proof.Machine

/-! ### The registers that no pseudocode reads -/

/-- Other values in ERR, ERR_INFO and WIRE_IN. -/
def withUnread (e : Err) (info : Word32) (wire : Vector Byte 32) (s : State) : State :=
  { s with err := e, errInfo := info, wireIn := wire }

/-- The end state changed, the outcome kept. -/
def CmdResult.map (f : State → State) : CmdResult → CmdResult
  | .done s => .done (f s)
  | .reported e info s => .reported e info (f s)
  | .raised e info s => .raised e info (f s)
  | .faulted f' => .faulted f'

/-- Pseudocode that neither reads nor writes ERR, ERR_INFO and WIRE_IN. -/
def Ignores (body : State → CmdResult) : Prop :=
  ∀ e info wire s, body (withUnread e info wire s) = (body s).map (withUnread e info wire)

theorem map_andThen {f : State → State} {k : State → CmdResult} (hk : ∀ s, k (f s) = (k s).map f) (r : CmdResult) :
    (r.map f).andThen k = (r.andThen k).map f := by
  cases r with
  | done s => exact hk s
  | raised e info s => rfl
  | faulted x => rfl
  | reported e info s =>
    simp only [CmdResult.map, CmdResult.andThen, hk s]
    cases k s <;> rfl

theorem Ignores.andThen {body k : State → CmdResult} (hb : Ignores body) (hk : Ignores k) :
    Ignores fun s => (body s).andThen k := fun e info wire s => by
  dsimp only
  rw [hb e info wire s, map_andThen (hk e info wire)]

/-- The branches of a test that reads none of the three. -/
theorem Ignores.ite {p : State → Prop} [DecidablePred p] {body body' : State → CmdResult} (hb : Ignores body)
    (hb' : Ignores body') (hp : ∀ e info wire s, p (withUnread e info wire s) = p s) :
    Ignores fun s => if p s then body s else body' s := fun e info wire s => by
  by_cases h : p s
  · simp only [hp, if_pos h, hb e info wire s]
  · simp only [hp, if_neg h, hb' e info wire s]

theorem Ignores.needPacket {body : State → CmdResult} (hb : Ignores body) :
    Ignores fun s => needPacket s body := by
  exact Ignores.ite (p := fun s => s.status.pktValid = true) hb (body' := fun s => .raised .notReady 1 s)
    (fun _ _ _ _ => rfl) (fun _ _ _ _ => rfl)

theorem Ignores.needScanning {body : State → CmdResult} (hb : Ignores body) :
    Ignores fun s => needScanning s body :=
  Ignores.ite (p := fun s => s.status.scanState.scanning = true) hb (body' := fun s => .raised .notReady 4 s)
    (fun _ _ _ _ => rfl) (fun _ _ _ _ => rfl)

theorem Ignores.needDecoding {body : State → CmdResult} (hb : Ignores body) :
    Ignores fun s => needDecoding s body :=
  Ignores.ite (p := fun s => s.status.scanState ≠ .accepted) (body := fun s => .raised .notReady 8 s)
    (fun _ _ _ _ => rfl)
    (Ignores.ite (p := fun s => s.mdecCount.toNat = pktBits) (body := fun s => .raised .notReady 16 s)
      (fun _ _ _ _ => rfl) hb fun _ _ _ _ => rfl)
    (fun _ _ _ _ => rfl)

/-! ### The parts of the commands -/

theorem ignores_verifyPacket : Ignores verifyPacket := fun e info wire s => by
  by_cases h : computeCrc s.packet = storedCrc s.packet <;> simp [verifyPacket, withUnread, CmdResult.map, h]

/-- What DECODE writes before its verification (45_packet_codec.md R224). -/
def recordWritten (s : State) : State :=
  { s with fields := decodePacket s.packet s.layout,
           status := { s.status with fieldsSplit := s.status.layoutKnown, fieldsValid := true } }

theorem decodeBody_eq (s : State) : decodeBody s = verifyPacket (recordWritten s) := rfl

theorem ignores_decodeBody : Ignores decodeBody := fun e info wire s =>
  ignores_verifyPacket e info wire (recordWritten s)

theorem ignores_applyResolve (a : State → Nat) (ha : ∀ e info wire s, a (withUnread e info wire s) = a s) :
    Ignores fun s => applyResolve (a s) s := fun e info wire s => by
  have hov : (withUnread e info wire s).override = s.override := rfl
  dsimp only
  rw [ha, applyResolve, hov, applyResolve]
  rcases resolveLayout (a s) s.override with d | (d | _) <;> rfl

theorem ignores_encodeBody : Ignores encodeBody := by
  refine Ignores.ite (p := fun s => (!s.status.layoutValid) = true) (body := fun s => .raised .notReady 2 s)
    (fun _ _ _ _ => rfl) ?_ (fun _ _ _ _ => rfl)
  refine Ignores.ite (p := fun s => (!s.status.layoutKnown) = true) (body := fun s => .raised .layoutUnknown 0 s)
    (fun _ _ _ _ => rfl) (fun e info wire s => ?_) (fun _ _ _ _ => rfl)
  dsimp only [withUnread]
  rcases encodePacket s.inputs s.divider.toNat with bad | v <;> rfl

theorem ignores_takeSample (i : Word32) (one : Bool) : Ignores (takeSample i one) := fun e info wire s => by
  unfold takeSample
  dsimp only [withUnread]
  cases s.status.scanState with
  | idle => cases one <;> rfl
  | inBurst =>
    cases one with
    | true =>
      simp only [if_true, burstOne]
      split <;> rfl
    | false =>
      simp only [Bool.false_eq_true, if_false, burstZero, evaluateBurst]
      split_ifs <;> rfl
  | _ => rfl

theorem ignores_scanOnce : Ignores scanOnce := by
  refine Ignores.ite (p := fun s => s.capLen.toNat ≤ s.scanPos.toNat)
    (body := fun s => .raised .burstNotFound 0 { s with status := { s.status with scanState := .notFound } })
    (fun _ _ _ _ => rfl) (fun e info wire s => ?_) (fun _ _ _ _ => rfl)
  have hread : capRead (withUnread e info wire s) s.scanPos.toNat = capRead s s.scanPos.toNat := rfl
  simp only [show (withUnread e info wire s).scanPos = s.scanPos from rfl, hread]
  cases capRead s s.scanPos.toNat with
  | error f => rfl
  | ok b => exact ignores_takeSample s.scanPos (sample b) e info wire (pastSample s)

theorem ignores_scanLoop : ∀ n, Ignores (scanLoop n)
  | 0 => fun _ _ _ _ => rfl
  | n + 1 => Ignores.ite (p := fun s => s.status.scanState.scanning = true)
      (ignores_scanOnce.andThen (ignores_scanLoop n)) (body' := .done) (fun _ _ _ _ => rfl) fun _ _ _ _ => rfl

theorem ignores_scanAll : Ignores scanAll := fun e info wire s => ignores_scanLoop _ e info wire s

theorem ignores_mdecOnce : Ignores mdecOnce := fun e info wire s => by
  have hread : ∀ i, capRead (withUnread e info wire s) i = capRead s i := fun _ => rfl
  unfold mdecOnce
  simp only [hread, show (withUnread e info wire s).burstOffset = s.burstOffset from rfl,
    show (withUnread e info wire s).mdecCount = s.mdecCount from rfl]
  cases capRead s (s.burstOffset.toNat + samplesPerBit * s.mdecCount.toNat) with
  | error f => rfl
  | ok b =>
    dsimp only [CmdResult.map]
    split_ifs <;> rfl

theorem ignores_mdecLoop : ∀ n, Ignores (mdecLoop n)
  | 0 => fun _ _ _ _ => rfl
  | n + 1 => Ignores.ite (p := fun s => s.mdecCount.toNat < pktBits)
      (ignores_mdecOnce.andThen (ignores_mdecLoop n)) (body' := .done) (fun _ _ _ _ => rfl) fun _ _ _ _ => rfl

theorem ignores_mdecAll : Ignores mdecAll := fun e info wire s => ignores_mdecLoop _ e info wire s

theorem ignores_startScan : Ignores startScan :=
  Ignores.ite (p := fun s => s.capLen.toNat < minCapture)
    (body := fun s => .raised .captureTooShort (scanCleared s).capLen
      { scanCleared s with status := { (scanCleared s).status with scanState := .notStarted } })
    (body' := fun s => .done { scanCleared s with status := { (scanCleared s).status with scanState := .idle } })
    (fun _ _ _ _ => rfl) (fun _ _ _ _ => rfl) fun _ _ _ _ => rfl

/-! ### The commands -/

/-- LOAD_SHORT reads WIRE_IN, and SOFT_RESET clears the outcome registers. -/
theorem ignores_commandResult {i : Instr} (hload : i ≠ .loadShort) (hreset : i ≠ .softReset) :
    Ignores (commandResult i) := by
  cases i with
  | loadShort => exact absurd rfl hload
  | softReset => exact absurd rfl hreset
  | slice | crcCompute => exact Ignores.needPacket fun _ _ _ _ => rfl
  | push width =>
    exact Ignores.ite (p := fun s => fits s.pushVal width.toNat = true)
      (body := fun s => .done { s with pushAcc := pushField s.pushAcc s.pushVal width.toNat })
      (body' := fun s => .raised .fieldOutOfRange 0x8000 s) (fun _ _ _ _ => rfl) (fun _ _ _ _ => rfl) fun _ _ _ _ => rfl
  | crcVerify => exact ignores_verifyPacket.needPacket
  | scanInit => exact ignores_startScan
  | scanStep => exact ignores_scanOnce.needScanning
  | scanRun => exact ignores_scanAll.needScanning
  | mdecStep => exact ignores_mdecOnce.needDecoding
  | mdecRun => exact ignores_mdecAll.needDecoding
  | locate => exact (ignores_startScan.andThen ignores_scanAll).andThen ignores_mdecAll
  | resolve => exact ignores_applyResolve (·.agencyIn.toNat) fun _ _ _ _ => rfl
  | resolvePkt => exact (ignores_applyResolve (packetAgency ·.packet) fun _ _ _ _ => rfl).needPacket
  | decode =>
    exact Ignores.ite (p := fun s => noPacketBit s.status ||| noLayoutBit s.status ≠ 0)
      (body := fun s => .raised .notReady (noPacketBit s.status ||| noLayoutBit s.status) s)
      (fun _ _ _ _ => rfl) ignores_decodeBody fun _ _ _ _ => rfl
  | encode => exact ignores_encodeBody
  | dissect =>
    exact ((ignores_applyResolve (packetAgency ·.packet) fun _ _ _ _ => rfl).andThen ignores_decodeBody).needPacket
  | craft => exact (ignores_applyResolve (·.inputs.agencyId.toNat) fun _ _ _ _ => rfl).andThen ignores_encodeBody
  | _ => exact fun _ _ _ _ => rfl

theorem conclude_map_withUnread (r : CmdResult) (e e' : Err) (info info' : Word32) (wire : Vector Byte 32) :
    conclude (r.map (withUnread e info wire)) = conclude (r.map (withUnread e' info' wire)) := by
  cases r <;> rfl

/-- No command reads the outcome of the one before it. -/
@[simp] theorem exec_withOutcome (i : Instr) (s : State) (e : Err) (info : Word32) :
    exec i (s.withOutcome e info) = exec i s := by
  rcases eq_or_ne i .loadShort with rfl | hload
  · rfl
  rcases eq_or_ne i .softReset with rfl | hreset
  · rfl
  have hbody := ignores_commandResult hload hreset
  calc exec i (s.withOutcome e info)
      = conclude ((commandResult i s).map (withUnread e info s.wireIn)) := by
        rw [exec_eq_conclude, ← hbody]; rfl
    _ = conclude ((commandResult i s).map (withUnread s.err s.errInfo s.wireIn)) := conclude_map_withUnread ..
    _ = exec i s := by rw [exec_eq_conclude, ← hbody]; rfl

/-- Settles O50: the pseudocode commutes with another WIRE_IN, and the shared end keeps it. -/
theorem onlyLoadShortReadsWireIn : Obligations.OnlyLoadShortReadsWireIn := by
  intro i s other hload
  rcases eq_or_ne i .softReset with rfl | hreset
  · refine ⟨fun t ht => ?_, fun f hf => nomatch hf⟩
    cases ht
    rfl
  have hother : commandResult i { s with wireIn := other } =
      (commandResult i s).map (withUnread s.err s.errInfo other) :=
    ignores_commandResult hload hreset s.err s.errInfo other s
  rw [exec_eq_conclude, exec_eq_conclude, hother]
  cases commandResult i s with
  | faulted f => exact ⟨fun t ht => (nomatch ht), fun f hf => hf⟩
  | _ =>
    refine ⟨fun t ht => ?_, fun f hf => nomatch hf⟩
    cases ht
    rfl

end Sys2Proof.Machine

/-! PROOFS. One scan step once and for all: the ten things it can do, what they keep, and the loop's end
(spec/43_burst_locator.md R161 to R168). -/

namespace Sys2Proof.Machine

/-! ### What a sample can do -/

/-- A candidate opened at index `i` (43_burst_locator.md R161). -/
def candidateOpened (i : Word32) (s : State) : State :=
  { s with status := { s.status with scanState := .inBurst }, runStart := i, runLength := 1, consecZeros := 0,
           consecOnes := 1 }

/-- The scan ended without a burst (43_burst_locator.md R164, R165). -/
def scanLost (s : State) : State := { s with status := { s.status with scanState := .notFound } }

/-- The candidate accepted (43_burst_locator.md R163). -/
def burstAccepted (s : State) : State :=
  { s with status := { s.status with scanState := .accepted }, burstOffset := s.runStart - 1, mdecCount := 0,
           mdecAcc := 0 }

/-- A run length inside ACCEPT_WINDOW (00_scope.md R6). -/
def inWindow (runLength : Word32) : Prop := 511 ≤ runLength.toNat ∧ runLength.toNat ≤ 517

/-- The effects of a sample read at index `i`, by SCAN_STATE, the sample and the counters (43_burst_locator.md R161 to
R164). -/
inductive SampleMove (i : Word32) (s : State) : Bool → CmdResult → Prop
  | skip (hstate : s.status.scanState = .idle) : SampleMove i s false (.done s)
  | candidate (hstate : s.status.scanState = .idle) : SampleMove i s true (.done (candidateOpened i s))
  | countOne (hstate : s.status.scanState = .inBurst) (hones : s.consecOnes ≠ 2) :
      SampleMove i s true (.done (oneCounted s))
  | thirdOne (hstate : s.status.scanState = .inBurst) (hones : s.consecOnes = 2) :
      SampleMove i s true (.done (closeCandidate s))
  | countZero (hstate : s.status.scanState = .inBurst) (hzeros : s.consecZeros ≠ 2) :
      SampleMove i s false (.done (zeroCounted s))
  | discard (hstate : s.status.scanState = .inBurst) (hzeros : s.consecZeros = 2)
      (hwin : ¬ inWindow (s.runLength + 1)) : SampleMove i s false (.done (closeCandidate (zeroCounted s)))
  | refuse (hstate : s.status.scanState = .inBurst) (hzeros : s.consecZeros = 2) (hwin : inWindow (s.runLength + 1))
      (hstart : s.runStart = 0) : SampleMove i s false (.raised .burstNotFound 1 (scanLost (zeroCounted s)))
  | accept (hstate : s.status.scanState = .inBurst) (hzeros : s.consecZeros = 2) (hwin : inWindow (s.runLength + 1))
      (hstart : s.runStart ≠ 0) : SampleMove i s false (.done (burstAccepted (zeroCounted s)))

theorem takeSample_idle {s : State} (h : s.status.scanState = .idle) (i : Word32) (one : Bool) :
    takeSample i one s = .done (idleSample i one s) := by rw [takeSample, h]

theorem takeSample_inBurst_one {s : State} (h : s.status.scanState = .inBurst) (i : Word32) :
    takeSample i true s = .done (burstOne s) := by rw [takeSample, h]; rfl

theorem takeSample_inBurst_zero {s : State} (h : s.status.scanState = .inBurst) (i : Word32) :
    takeSample i false s = burstZero s := by rw [takeSample, h]; rfl

theorem takeSample_move {s : State} (h : s.status.scanState.scanning = true) (i : Word32) (one : Bool) :
    SampleMove i s one (takeSample i one s) := by
  rcases (scanning_iff _).mp h with hidle | hburst
  · rw [takeSample_idle hidle]
    cases one with
    | true => exact .candidate hidle
    | false => exact .skip hidle
  cases one with
  | true =>
    rw [takeSample_inBurst_one hburst]
    by_cases hones : s.consecOnes = 2
    · rw [burstOne_of_third hones]; exact .thirdOne hburst hones
    · rw [burstOne_of_not_third hones]; exact .countOne hburst hones
  | false =>
    rw [takeSample_inBurst_zero hburst]
    by_cases hzeros : s.consecZeros = 2
    · rw [burstZero_of_third hzeros]
      by_cases hwin : inWindow (s.runLength + 1)
      · by_cases hstart : s.runStart = 0
        · rw [evaluateBurst_at_zero (s := zeroCounted s) hwin hstart]; exact .refuse hburst hzeros hwin hstart
        · rw [evaluateBurst_accepts (s := zeroCounted s) hwin hstart]; exact .accept hburst hzeros hwin hstart
      · rw [evaluateBurst_outside (s := zeroCounted s) hwin]; exact .discard hburst hzeros hwin
    · rw [burstZero_of_not_third hzeros]; exact .countZero hburst hzeros

/-- The effects of a scan step with a scan under way: the capture's end, a byte that the core cannot read, or the effect
of the sample at SCAN_POS (43_burst_locator.md R165). -/
inductive ScanMove (s : State) : CmdResult → Prop
  | captureEnd (hend : s.capLen.toNat ≤ s.scanPos.toNat) : ScanMove s (.raised .burstNotFound 0 (scanLost s))
  | stop (f : Fault) (hlen : s.scanPos.toNat < s.capLen.toNat) (hread : capRead s s.scanPos.toNat = .error f) :
      ScanMove s (.faulted f)
  | sample {one : Bool} {r : CmdResult} (b : Byte) (hlen : s.scanPos.toNat < s.capLen.toNat)
      (hread : capRead s s.scanPos.toNat = .ok b) (hone : sample b = one)
      (hmove : SampleMove s.scanPos (pastSample s) one r) : ScanMove s r

theorem scanOnce_move {s : State} (h : s.status.scanState.scanning = true) : ScanMove s (scanOnce s) := by
  rcases scanOnce_cases s with ⟨hend, hres⟩ | ⟨hlen, f, hread, hres⟩ | ⟨hlen, b, hread, hres⟩ <;> rw [hres]
  · exact .captureEnd hend
  · exact .stop f hlen hread
  · exact .sample b hlen hread rfl (takeSample_move (s := pastSample s) h _ _)

/-! ### What a scan keeps -/

/-- Only the registers of the scan and of the decoder's start differ (43_burst_locator.md R161 to R165). -/
def ScanKeeps (s t : State) : Prop :=
  t = { s with status := { s.status with scanState := t.status.scanState }, scanPos := t.scanPos,
               runStart := t.runStart, runLength := t.runLength, consecZeros := t.consecZeros,
               consecOnes := t.consecOnes, burstOffset := t.burstOffset, mdecCount := t.mdecCount,
               mdecAcc := t.mdecAcc }

theorem ScanKeeps.refl (s : State) : ScanKeeps s s := rfl

theorem ScanKeeps.trans {s t u : State} (hst : ScanKeeps s t) (htu : ScanKeeps t u) : ScanKeeps s u := by
  unfold ScanKeeps at hst
  refine Eq.trans htu ?_
  rw [hst]

theorem SampleMove.keeps {i : Word32} {s : State} {one : Bool} {r : CmdResult} (h : SampleMove i s one r) :
    r.Ends (ScanKeeps s) := by
  cases h <;> simp only [ends_done, ends_raised] <;> rfl

theorem ScanMove.keeps {s : State} {r : CmdResult} (h : ScanMove s r) : r.Ends (ScanKeeps s) := by
  cases h with
  | captureEnd => simp only [ends_raised]; rfl
  | stop => simp only [ends_faulted]
  | sample b _ _ _ hmove => exact ends_mono hmove.keeps fun t ht => ScanKeeps.trans (t := pastSample s) rfl ht

theorem scanLoop_keeps (n : Nat) (s : State) : (scanLoop n s).Ends (ScanKeeps s) :=
  scanLoop_ends (fun _ ht hscan => ends_mono (scanOnce_move hscan).keeps fun _ hu => ht.trans hu) n s (.refl s)

theorem scanAll_keeps (s : State) : (scanAll s).Ends (ScanKeeps s) := scanLoop_keeps _ s

/-! ### How the loop ends -/

/-- What acceptance leaves (43_burst_locator.md R163). -/
def AcceptedHere (t : State) : Prop :=
  t.status.scanState = .accepted ∧ inWindow t.runLength ∧ t.consecZeros = 3 ∧ t.burstOffset = t.runStart - 1 ∧
    t.mdecCount = 0 ∧ t.mdecAcc = 0

/-- A step that completes goes on with the next sample, or has accepted the burst. -/
theorem scanOnce_done {s t : State} (hscan : s.status.scanState.scanning = true) (h : scanOnce s = .done t) :
    s.scanPos.toNat < s.capLen.toNat ∧ t.scanPos.toNat = s.scanPos.toNat + 1 ∧ t.capLen = s.capLen ∧
      (t.status.scanState.scanning = true ∨ AcceptedHere t) := by
  have hmove := scanOnce_move hscan
  rw [h] at hmove
  cases hmove with
  | sample b hlen _ _ hsample =>
    have hpos := scanPos_succ_toNat hlen
    refine ⟨hlen, ?_⟩
    cases hsample with
    | skip => exact ⟨hpos, rfl, .inl hscan⟩
    | countOne | countZero => exact ⟨hpos, rfl, .inl hscan⟩
    | candidate | thirdOne | discard => exact ⟨hpos, rfl, .inl rfl⟩
    | accept _ hzeros hwin =>
      refine ⟨hpos, rfl, .inr ⟨rfl, hwin, ?_, rfl, rfl, rfl⟩⟩
      change (pastSample s).consecZeros + 1 = 3
      rw [hzeros]; rfl

/-- A step that raises leaves the scan in NotFound. -/
theorem scanOnce_raised {s t : State} {e : Err} {info : Word32} (hscan : s.status.scanState.scanning = true)
    (h : scanOnce s = .raised e info t) :
    e = .burstNotFound ∧ (info = 0 ∨ info = 1) ∧ t.status.scanState = .notFound ∧
      (t.scanPos = s.scanPos ∨ s.scanPos.toNat < s.capLen.toNat ∧ t.scanPos.toNat = s.scanPos.toNat + 1) := by
  have hmove := scanOnce_move hscan
  rw [h] at hmove
  cases hmove with
  | captureEnd => exact ⟨rfl, .inl rfl, rfl, .inl rfl⟩
  | sample b hlen _ _ hsample =>
    cases hsample
    exact ⟨rfl, .inr rfl, rfl, .inr ⟨hlen, scanPos_succ_toNat hlen⟩⟩

theorem scanOnce_not_reported {s t : State} {e : Err} {info : Word32} (hscan : s.status.scanState.scanning = true) :
    scanOnce s ≠ .reported e info t := by
  intro h
  have hmove := scanOnce_move hscan
  rw [h] at hmove
  cases hmove with
  | sample b _ _ _ hsample => cases hsample

/-- The ends of a whole scan that began at `s`: a burst accepted, none found, or a byte that the core cannot read. -/
inductive ScanEnd (s : State) : CmdResult → Prop
  | accepted (t : State) (h : AcceptedHere t) (hlo : s.scanPos.toNat ≤ t.scanPos.toNat)
      (hhi : t.scanPos.toNat ≤ s.capLen.toNat) : ScanEnd s (.done t)
  | notFound (info : Word32) (t : State) (hinfo : info = 0 ∨ info = 1) (h : t.status.scanState = .notFound)
      (hlo : s.scanPos.toNat ≤ t.scanPos.toNat) (hhi : t.scanPos.toNat ≤ max s.capLen.toNat s.scanPos.toNat) :
      ScanEnd s (.raised .burstNotFound info t)
  | stop (f : Fault) : ScanEnd s (.faulted f)

theorem scanLoop_of_not_scanning {s : State} (h : s.status.scanState.scanning = false) :
    ∀ n, scanLoop n s = .done s
  | 0 => rfl
  | n + 1 => by rw [scanLoop_succ, h]; rfl

/-- Every step moves SCAN_POS on, so a bound above the samples that are left ends the scan (43_burst_locator.md R168). -/
theorem scanLoop_end (n : Nat) :
    ∀ s : State, s.status.scanState.scanning = true → s.capLen.toNat - s.scanPos.toNat < n →
      ScanEnd s (scanLoop n s) := by
  induction n with
  | zero => intro s _ h; omega
  | succ n ih =>
    intro s hscan hn
    rw [scanLoop_succ, if_pos hscan]
    cases hres : scanOnce s with
    | reported e info t => exact absurd hres (scanOnce_not_reported hscan)
    | faulted f => exact .stop f
    | raised e info t =>
      obtain ⟨rfl, hinfo, hstate, hpos⟩ := scanOnce_raised hscan hres
      have hposNat : t.scanPos.toNat = s.scanPos.toNat ∨
          s.scanPos.toNat < s.capLen.toNat ∧ t.scanPos.toNat = s.scanPos.toNat + 1 := hpos.imp_left (by rw [·])
      exact .notFound info t hinfo hstate (by omega) (by omega)
    | done t =>
      obtain ⟨hlen, hpos, hcap, hnext⟩ := scanOnce_done hscan hres
      rw [andThen_done]
      rcases hnext with hscan' | hacc
      · have hrest := ih t hscan' (by rw [hcap]; omega)
        revert hrest
        generalize scanLoop n t = r
        rintro (⟨u, hacc, hlo, hhi⟩ | ⟨info, u, hinfo, hstate, hlo, hhi⟩ | f)
        · exact .accepted u hacc (by omega) (hcap ▸ hhi)
        · rw [hcap] at hhi
          exact .notFound info u hinfo hstate (by omega) (by omega)
        · exact .stop f
      · rw [scanLoop_of_not_scanning (by rw [hacc.1]; rfl)]
        exact .accepted t hacc (by omega) (by omega)

theorem scanAll_end {s : State} (h : s.status.scanState.scanning = true) : ScanEnd s (scanAll s) :=
  scanLoop_end _ s h (Nat.lt_succ_self _)

end Sys2Proof.Machine

/-! PROOFS. Outcomes: which code each part of a command can end with and of what form its detail is, and NotReady exactly
when a precondition is unmet (spec/60_exceptions.md R262 to R265). -/

namespace Sys2Proof.Machine

/-! ### The outcome of a result -/

/-- The result's code is in the list, and its detail of the form R264 gives the code. -/
def CmdResult.OutcomeIn (codes : List Err) : CmdResult → Prop
  | .done _ => .ok ∈ codes
  | .reported e info _ => e ∈ codes ∧ OutcomeInv e info
  | .raised e info _ => e ∈ codes ∧ OutcomeInv e info
  | .faulted _ => True

theorem CmdResult.OutcomeIn.mono {codes codes' : List Err} {r : CmdResult} (h : r.OutcomeIn codes)
    (hsub : codes ⊆ codes') : r.OutcomeIn codes' := by
  cases r with
  | done s => exact hsub h
  | reported e info s => exact ⟨hsub h.1, h.2⟩
  | raised e info s => exact ⟨hsub h.1, h.2⟩
  | faulted f => trivial

theorem CmdResult.OutcomeIn.andThen {codes : List Err} {r : CmdResult} {k : State → CmdResult} (hr : r.OutcomeIn codes)
    (hk : ∀ s, (k s).OutcomeIn codes) : (r.andThen k).OutcomeIn codes := by
  cases r with
  | done s => exact hk s
  | raised e info s => exact hr
  | faulted f => trivial
  | reported e info s =>
    have hks := hk s
    simp only [CmdResult.andThen]
    cases hs : k s with
    | done t => exact hr
    | _ => rw [hs] at hks; exact hks

theorem outcome_of_next {codes : List Err} {r : CmdResult} {t : State} (h : r.OutcomeIn codes)
    (ht : conclude r = .next t) : t.err ∈ codes ∧ OutcomeInv t.err t.errInfo := by
  cases r with
  | done s => cases ht; exact ⟨h, rfl⟩
  | reported e info s => cases ht; exact h
  | raised e info s => cases ht; exact h
  | faulted f => cases ht

/-! ### The parts of the commands -/

theorem mismatchInfo_halves (expected actual : BitVec 16) :
    (mismatchInfo expected actual).extractLsb' 16 16 = expected ∧
    (mismatchInfo expected actual).extractLsb' 0 16 = actual := by
  have ha := actual.isLt
  have he := expected.isLt
  constructor <;> apply BitVec.eq_of_toNat_eq <;>
    rw [BitVec.extractLsb'_toNat, mismatchInfo_toNat, Nat.shiftRight_eq_div_pow] <;> omega

theorem verifyPacket_outcomeIn (s : State) : (verifyPacket s).OutcomeIn [.crcMismatch, .ok] := by
  rcases verifyPacket_cases s with ⟨_, hres⟩ | ⟨hne, hres⟩ <;> rw [hres]
  · simp [CmdResult.OutcomeIn]
  · obtain ⟨hhi, hlo⟩ := mismatchInfo_halves (computeCrc s.packet) (storedCrc s.packet)
    exact ⟨by simp, by simpa only [OutcomeInv, hhi, hlo] using hne⟩

theorem applyResolve_outcomeIn (a : Nat) (s : State) : (applyResolve a s).OutcomeIn [.invalidDivider, .ok] := by
  rcases applyResolve_cases a s with ⟨d, _, hillegal, hlt, hres⟩ | ⟨d, _, _, hres⟩ | ⟨_, hres⟩ <;> rw [hres]
  · have hd : (BitVec.ofNat 32 d).toNat = d := Nat.mod_eq_of_lt (by omega)
    exact ⟨by simp, by simpa only [OutcomeInv, hd] using ⟨hlt, hillegal⟩⟩
  · simp [CmdResult.OutcomeIn]
  · simp [CmdResult.OutcomeIn]

/-- The misfit mask has one bit for each value. -/
theorem badFields_lt (values : List (Word256 × Nat)) :
    ∀ j, badFields j values + 2 ^ j ≤ 2 ^ (j + values.length) := by
  induction values with
  | nil => intro j; simp [badFields]
  | cons c rest ih =>
    intro j
    obtain ⟨v, width⟩ := c
    have hrest := ih (j + 1)
    have hlen : j + 1 + rest.length = j + (rest.length + 1) := by omega
    have hbit : (if fits v width then 0 else 2 ^ j) ≤ 2 ^ j := by split <;> simp
    rw [hlen, pow_succ] at hrest
    simp only [badFields, List.length_cons]
    omega

theorem encodePacket_error {inputs : InputRegs} {d bad : Nat} (h : encodePacket inputs d = .error bad) :
    bad = badFields 0 (encodeOperands inputs d) ∧ bad ≠ 0 ∧ bad < 1024 := by
  have hlt := badFields_lt (encodeOperands inputs d) 0
  unfold encodePacket at h
  dsimp only at h
  split_ifs at h with hbad
  cases h
  refine ⟨rfl, hbad, ?_⟩
  simp only [encodeOperands, List.length_cons, List.length_nil] at hlt ⊢
  omega

theorem encodeBody_outcomeIn {s : State} (h : s.status.layoutValid = true) :
    (encodeBody s).OutcomeIn [.layoutUnknown, .fieldOutOfRange, .ok] := by
  rcases encodeBody_cases s with ⟨hv, _⟩ | ⟨_, _, hres⟩ | ⟨_, _, ⟨bad, herr, hres⟩ | ⟨v, _, hres⟩⟩
  · rw [h] at hv; cases hv
  · rw [hres]; exact ⟨by simp, rfl⟩
  · obtain ⟨_, hne, hlt⟩ := encodePacket_error herr
    have hbad : (BitVec.ofNat 32 bad).toNat = bad := Nat.mod_eq_of_lt (by omega)
    rw [hres]
    exact ⟨by simp, .inr ⟨fun h0 => hne (by rw [← hbad, h0]; rfl), by rwa [hbad]⟩⟩
  · rw [hres]; simp [CmdResult.OutcomeIn]

theorem startScan_outcomeIn (s : State) : (startScan s).OutcomeIn [.captureTooShort, .ok] := by
  rcases startScan_cases s with ⟨hshort, hres⟩ | ⟨_, hres⟩ <;> rw [hres]
  · exact ⟨by simp, hshort⟩
  · simp [CmdResult.OutcomeIn]

theorem scanOnce_outcomeIn {s : State} (h : s.status.scanState.scanning = true) :
    (scanOnce s).OutcomeIn [.burstNotFound, .ok] := by
  cases hres : scanOnce s with
  | done t => simp [CmdResult.OutcomeIn]
  | reported e info t => exact absurd hres (scanOnce_not_reported h)
  | raised e info t =>
    obtain ⟨rfl, hinfo, -⟩ := scanOnce_raised h hres
    exact ⟨by simp, hinfo⟩
  | faulted f => trivial

theorem scanLoop_outcomeIn : ∀ (n : Nat) (s : State), (scanLoop n s).OutcomeIn [.burstNotFound, .ok]
  | 0, s => by simp [CmdResult.OutcomeIn]
  | n + 1, s => by
    rw [scanLoop_succ]
    split_ifs with hscan
    · exact (scanOnce_outcomeIn hscan).andThen (scanLoop_outcomeIn n)
    · simp [CmdResult.OutcomeIn]

theorem mdecOnce_outcomeIn (s : State) : (mdecOnce s).OutcomeIn [.ok] := by
  rcases mdecOnce_cases s with ⟨f, _, hres⟩ | ⟨b, _, hres⟩ <;> rw [hres] <;> simp [CmdResult.OutcomeIn]

theorem mdecLoop_outcomeIn : ∀ (n : Nat) (s : State), (mdecLoop n s).OutcomeIn [.ok]
  | 0, s => by simp [CmdResult.OutcomeIn]
  | n + 1, s => by
    rw [mdecLoop_succ]
    split_ifs
    · exact (mdecOnce_outcomeIn s).andThen (mdecLoop_outcomeIn n)
    · simp [CmdResult.OutcomeIn]

/-! ### The preconditions -/

theorem packetMissing_eq_zero_iff (s : State) : packetMissing s = 0 ↔ s.status.pktValid = true := by
  cases h : s.status.pktValid <;> simp [packetMissing, h]

theorem needPacket_of_missing {s : State} (h : packetMissing s ≠ 0) (body : State → CmdResult) :
    needPacket s body = .raised .notReady (BitVec.ofNat 32 (packetMissing s)) s := by
  have hpkt : s.status.pktValid = false := by simpa using mt (packetMissing_eq_zero_iff s).mpr h
  rw [needPacket_of_not_valid hpkt]
  simp [packetMissing, hpkt]

theorem scanMissing_eq_zero_iff (s : State) : scanMissing s = 0 ↔ s.status.scanState.scanning = true := by
  rw [scanning_iff, scanMissing]
  split_ifs with h <;> simp [h]

theorem needScanning_of_missing {s : State} (h : scanMissing s ≠ 0) (body : State → CmdResult) :
    needScanning s body = .raised .notReady (BitVec.ofNat 32 (scanMissing s)) s := by
  have hscan := mt (scanMissing_eq_zero_iff s).mpr h
  have hmask : scanMissing s = 4 := by
    unfold scanMissing at h ⊢
    split_ifs at h ⊢
    · exact absurd rfl h
    · rfl
  rw [needScanning, if_neg hscan, hmask]
  rfl

theorem mdecCount_eq_256_iff (s : State) : s.mdecCount = 256 ↔ s.mdecCount.toNat = 256 :=
  ⟨fun h => by rw [h]; rfl, fun h => BitVec.eq_of_toNat_eq h⟩

theorem needDecoding_of_missing {s : State} (h : decodingMissing s ≠ 0) (body : State → CmdResult) :
    needDecoding s body = .raised .notReady (BitVec.ofNat 32 (decodingMissing s)) s := by
  unfold decodingMissing at h ⊢
  by_cases hstate : s.status.scanState ≠ .accepted
  · rw [if_pos hstate, needDecoding, if_pos hstate]; rfl
  · by_cases hcount : s.mdecCount = 256
    · rw [if_neg hstate, if_pos hcount, needDecoding, if_neg hstate,
        if_pos (show s.mdecCount.toNat = pktBits from (mdecCount_eq_256_iff s).mp hcount)]
      rfl
    · rw [if_neg hstate, if_neg hcount] at h
      exact absurd rfl h

theorem decodingMissing_eq_zero_iff (s : State) :
    decodingMissing s = 0 ↔ s.status.scanState = .accepted ∧ s.mdecCount.toNat ≠ 256 := by
  unfold decodingMissing
  simp only [mdecCount_eq_256_iff]
  split_ifs <;> simp_all

theorem missingBits_eq (s : State) :
    noPacketBit s.status ||| noLayoutBit s.status = BitVec.ofNat 32 (unmetMask .decode s) := by
  cases hp : s.status.pktValid <;> cases hl : s.status.layoutValid <;>
    simp [noPacketBit, noLayoutBit, unmetMask, packetMissing, hp, hl]

/-- The masks a command can have: nothing unmet, or one of R264's list. -/
theorem unmetMask_mem (i : Instr) (s : State) : unmetMask i s ∈ [0, 1, 2, 3, 4, 8, 16] := by
  cases i with
  | slice | crcCompute | crcVerify | resolvePkt | dissect =>
    simp only [unmetMask, packetMissing]
    split <;> decide
  | scanStep | scanRun =>
    simp only [unmetMask, scanMissing]
    split <;> decide
  | mdecStep | mdecRun =>
    simp only [unmetMask, decodingMissing]
    split_ifs <;> decide
  | decode =>
    simp only [unmetMask, packetMissing]
    split_ifs <;> decide
  | encode =>
    simp only [unmetMask]
    split <;> decide
  | _ => exact List.mem_cons_self

theorem outcomeInv_notReady {mask : Nat} (h : mask ∈ [1, 2, 3, 4, 8, 16]) :
    OutcomeInv .notReady (BitVec.ofNat 32 mask) := by
  simp only [List.mem_cons, List.not_mem_nil, or_false] at h
  rcases h with rfl | rfl | rfl | rfl | rfl | rfl <;> simp [OutcomeInv]

theorem notReady_mem_of_unmet {i : Instr} {s : State} (h : unmetMask i s ≠ 0) : .notReady ∈ possibleOutcomes i := by
  cases i with
  | slice | crcCompute | crcVerify | scanStep | scanRun | mdecStep | mdecRun | resolvePkt | decode | encode
  | dissect => exact List.mem_cons_self
  | _ => exact absurd rfl h

theorem commandResult_of_unmet {i : Instr} {s : State} (h : unmetMask i s ≠ 0) :
    commandResult i s = .raised .notReady (BitVec.ofNat 32 (unmetMask i s)) s := by
  cases i with
  | slice | crcCompute | crcVerify | resolvePkt | dissect => rw [commandResult, needPacket_of_missing h]; rfl
  | scanStep | scanRun => rw [commandResult, needScanning_of_missing h]; rfl
  | mdecStep | mdecRun => rw [commandResult, needDecoding_of_missing h]; rfl
  | decode =>
    have hlt : unmetMask .decode s < 2 ^ 32 :=
      lt_of_le_of_lt (List.le_sum_of_mem (unmetMask_mem .decode s)) (by decide)
    have hne : BitVec.ofNat 32 (unmetMask .decode s) ≠ 0 := fun h0 => h (by
      rw [← Nat.mod_eq_of_lt hlt, ← BitVec.toNat_ofNat, h0]; rfl)
    rw [commandResult, missingBits_eq, if_pos hne]
  | encode =>
    have hv : s.status.layoutValid = false := by
      cases hv : s.status.layoutValid <;> simp_all [unmetMask]
    simp [commandResult, encodeBody, hv, unmetMask]
  | _ => exact absurd rfl h

/-- The column "outcomes" of R265 without NotReady. -/
def readyOutcomes (i : Instr) : List Err := (possibleOutcomes i).filter (· ≠ .notReady)

theorem ok_mem_readyOutcomes (i : Instr) : .ok ∈ readyOutcomes i := by
  rw [readyOutcomes, List.mem_filter]
  cases i <;> simp [possibleOutcomes]

/-- With every precondition met a command ends with another code of its row. -/
theorem commandResult_of_met {i : Instr} {s : State} (h : unmetMask i s = 0) :
    (commandResult i s).OutcomeIn (readyOutcomes i) := by
  cases i with
  | slice | crcCompute =>
    rw [commandResult, needPacket_of_valid ((packetMissing_eq_zero_iff s).mp h)]
    exact ok_mem_readyOutcomes _
  | crcVerify =>
    rw [commandResult, needPacket_of_valid ((packetMissing_eq_zero_iff s).mp h)]
    exact verifyPacket_outcomeIn s
  | resolvePkt =>
    rw [commandResult, needPacket_of_valid ((packetMissing_eq_zero_iff s).mp h)]
    exact applyResolve_outcomeIn _ s
  | dissect =>
    rw [commandResult, needPacket_of_valid ((packetMissing_eq_zero_iff s).mp h)]
    exact ((applyResolve_outcomeIn _ s).mono (by decide)).andThen fun t => (verifyPacket_outcomeIn _).mono (by decide)
  | push width =>
    rw [commandResult]
    split
    · exact ok_mem_readyOutcomes _
    · exact ⟨List.mem_cons_self, .inl rfl⟩
  | scanInit => exact startScan_outcomeIn s
  | scanStep =>
    have hscan := (scanMissing_eq_zero_iff s).mp h
    rw [commandResult, needScanning_of_scanning hscan]
    exact scanOnce_outcomeIn hscan
  | scanRun =>
    rw [commandResult, needScanning_of_scanning ((scanMissing_eq_zero_iff s).mp h)]
    exact scanLoop_outcomeIn _ s
  | mdecStep =>
    obtain ⟨hstate, hcount⟩ := (decodingMissing_eq_zero_iff s).mp h
    rw [commandResult, needDecoding_of_ready hstate hcount]
    exact mdecOnce_outcomeIn s
  | mdecRun =>
    obtain ⟨hstate, hcount⟩ := (decodingMissing_eq_zero_iff s).mp h
    rw [commandResult, needDecoding_of_ready hstate hcount]
    exact mdecLoop_outcomeIn _ s
  | locate =>
    exact (((startScan_outcomeIn s).mono (by decide)).andThen fun t => (scanLoop_outcomeIn _ t).mono (by decide)).andThen
      fun t => (mdecLoop_outcomeIn _ t).mono (by decide)
  | resolve => exact applyResolve_outcomeIn _ s
  | decode =>
    rw [commandResult, missingBits_eq, h, if_neg (by decide)]
    exact verifyPacket_outcomeIn _
  | encode =>
    have hv : s.status.layoutValid = true := by
      cases hv : s.status.layoutValid <;> simp_all [unmetMask]
    exact encodeBody_outcomeIn hv
  | craft =>
    rw [commandResult]
    rcases applyResolve_cases s.inputs.agencyId.toNat s with ⟨d, _, _, _, hres⟩ | ⟨d, _, _, hres⟩ | ⟨_, hres⟩
    · have hraised := applyResolve_outcomeIn s.inputs.agencyId.toNat s
      rw [hres] at hraised ⊢
      exact hraised.mono (by decide)
    all_goals
      rw [hres, andThen_done]
      exact (encodeBody_outcomeIn rfl).mono (by decide)
  | _ => exact ok_mem_readyOutcomes _

/-! ### The obligations -/

/-- Settles O48: the code NotReady where something is unmet, and what the command's parts end with otherwise. -/
theorem outcomesAreTheTablesOutcomes : Obligations.OutcomesAreTheTablesOutcomes := by
  intro i s t ht
  rw [exec_eq_conclude] at ht
  by_cases h : unmetMask i s = 0
  · obtain ⟨hmem, hinfo⟩ := outcome_of_next (commandResult_of_met h) ht
    exact ⟨List.mem_of_mem_filter hmem, hinfo⟩
  · rw [commandResult_of_unmet h] at ht
    cases ht
    exact ⟨notReady_mem_of_unmet h, outcomeInv_notReady ((List.mem_cons.mp (unmetMask_mem i s)).resolve_left h)⟩

/-- Settles O49: an unmet precondition is raised before anything changes, and no part of a command raises it later. -/
theorem notReadyExactlyWhenUnmet : Obligations.NotReadyExactlyWhenUnmet := by
  refine fun i s => ⟨fun h => ?_, fun h t ht => ?_⟩
  · rw [exec_eq_conclude, commandResult_of_unmet h, conclude_raised, State.withOutcome]
  · rw [exec_eq_conclude] at ht
    obtain ⟨hmem, -⟩ := outcome_of_next (commandResult_of_met h) ht
    simpa using List.of_mem_filter hmem

end Sys2Proof.Machine

/-! PROOFS. The invariant: which registers each of its parts is about, what keeps each part, and every command and every
host access keeping them all (spec/10_state.md R23, R25 to R28, R31, R35, spec/60_exceptions.md R264). -/

namespace Sys2Proof.Machine

/-! ### What each part is about -/

/-- The registers of `CaptureInv`. -/
def captureView (s : State) : Memory × CapSize × Word32 := (s.cap, s.capSize, s.capLen)

/-- The registers of `LocatorInv`. -/
def locatorView (s : State) : Memory × CapSize × ScanState × Word32 × Word32 × Word32 × BitVec 2 × BitVec 2 × Word32 :=
  (s.cap, s.capSize, s.status.scanState, s.scanPos, s.runStart, s.runLength, s.consecZeros, s.consecOnes, s.burstOffset)

/-- The registers of `DecoderInv`. -/
def decoderView (s : State) : BitVec 9 × Word256 := (s.mdecCount, s.mdecAcc)

/-- The registers of `LayoutInv`. -/
def layoutView (s : State) : Bool × Bool × BitVec 16 × BitVec 8 × BitVec 8 :=
  (s.status.layoutValid, s.status.layoutKnown, s.divider, s.afLen, s.pb1Len)

/-- The registers of `DerivedInv`. -/
def derivedView (s : State) :
    Bool × Bool × Bool × Bool × Bool × Word256 × BitVec 16 × BitVec 16 × FieldRegs :=
  (s.status.pktValid, s.status.fieldsValid, s.status.fieldsSplit, s.status.crcValid, s.status.crcMatch, s.packet,
    s.crcExpected, s.crcActual, s.fields)

theorem CaptureInv.congr {s t : State} (h : CaptureInv s) (hview : captureView t = captureView s) : CaptureInv t := by
  obtain ⟨hcanonical, hinside, hlen⟩ := h
  simp only [captureView, Prod.mk.injEq] at hview
  obtain ⟨hcap, hsize, hcapLen⟩ := hview
  constructor <;> simpa only [hcap, hsize, hcapLen]

theorem LocatorInv.congr {s t : State} (h : LocatorInv s) (hview : locatorView t = locatorView s) : LocatorInv t := by
  obtain ⟨hpos, hread, hidle, hburst, haccepted⟩ := h
  simp only [locatorView, Prod.mk.injEq] at hview
  obtain ⟨hcap, hsize, hstate, hscanPos, hstart, hlength, hzeros, hones, hoffset⟩ := hview
  constructor <;> simpa only [hcap, hsize, hstate, hscanPos, hstart, hlength, hzeros, hones, hoffset]

theorem DecoderInv.congr {s t : State} (h : DecoderInv s) (hview : decoderView t = decoderView s) : DecoderInv t := by
  obtain ⟨hcount, hacc⟩ := h
  simp only [decoderView, Prod.mk.injEq] at hview
  obtain ⟨hmdecCount, hmdecAcc⟩ := hview
  constructor <;> simpa only [hmdecCount, hmdecAcc]

theorem LayoutInv.congr {s t : State} (h : LayoutInv s) (hview : layoutView t = layoutView s) : LayoutInv t := by
  obtain ⟨hvalid, hknown, hunknown⟩ := h
  simp only [layoutView, Prod.mk.injEq] at hview
  obtain ⟨hlayoutValid, hlayoutKnown, hdivider, haf, hpb1⟩ := hview
  constructor <;> simpa only [hlayoutValid, hlayoutKnown, hdivider, haf, hpb1]

theorem DerivedInv.congr {s t : State} (h : DerivedInv s) (hview : derivedView t = derivedView s) : DerivedInv t := by
  obtain ⟨hfp, hsf, hcp, hmc, hregs, hwhole, hsplit⟩ := h
  simp only [derivedView, Prod.mk.injEq] at hview
  obtain ⟨hpkt, hfields, hfsplit, hcrc, hmatch, hpacket, hexp, hact, hrecord⟩ := hview
  constructor <;> simpa only [hpkt, hfields, hfsplit, hcrc, hmatch, hpacket, hexp, hact, hrecord]

/-- The invariant without the outcome, which only the end of a command writes. -/
structure BodyInv (s : State) : Prop where
  capture : CaptureInv s
  locator : LocatorInv s
  decoder : DecoderInv s
  layout : LayoutInv s
  derived : DerivedInv s

theorem Inv.body {s : State} (h : Inv s) : BodyInv s := ⟨h.capture, h.locator, h.decoder, h.layout, h.derived⟩

theorem BodyInv.congr {s t : State} (h : BodyInv s) (hcapture : captureView t = captureView s)
    (hlocator : locatorView t = locatorView s) (hdecoder : decoderView t = decoderView s)
    (hlayout : layoutView t = layoutView s) (hderived : derivedView t = derivedView s) : BodyInv t :=
  ⟨h.capture.congr hcapture, h.locator.congr hlocator, h.decoder.congr hdecoder, h.layout.congr hlayout,
    h.derived.congr hderived⟩

/-! ### The locator's part, by SCAN_STATE -/

/-- Every index below SCAN_POS lies in CAP and holds a byte. -/
def ReadBefore (s : State) : Prop :=
  s.scanPos.toNat ≤ s.capSize.bytes ∧ ∀ a, a < s.scanPos.toNat → Memory.read s.cap a ≠ none

theorem LocatorInv.readBefore' {s : State} (h : LocatorInv s) : ReadBefore s := ⟨h.scanPos, h.readBefore⟩

theorem locatorInv_of_idle {s : State} (hread : ReadBefore s) (hstate : s.status.scanState = .idle)
    (hzero : s.runStart = 0 ∧ s.runLength = 0 ∧ s.consecZeros = 0 ∧ s.consecOnes = 0) : LocatorInv s :=
  ⟨hread.1, hread.2, fun _ => hzero, fun h => (nomatch hstate.symm.trans h), fun h => (nomatch hstate.symm.trans h)⟩

theorem locatorInv_of_inBurst {s : State} (hread : ReadBefore s) (hstate : s.status.scanState = .inBurst)
    (hburst : s.runStart.toNat + s.runLength.toNat = s.scanPos.toNat ∧ 1 ≤ s.runLength.toNat ∧
      (s.consecZeros = 0 ∧ s.consecOnes ≠ 0 ∨ s.consecZeros ≠ 0 ∧ s.consecOnes = 0) ∧
      s.consecZeros.toNat ≤ 2 ∧ s.consecOnes.toNat ≤ 2) : LocatorInv s :=
  ⟨hread.1, hread.2, fun h => (nomatch hstate.symm.trans h), fun _ => hburst, fun h => (nomatch hstate.symm.trans h)⟩

theorem locatorInv_of_accepted {s : State} (hread : ReadBefore s) (hstate : s.status.scanState = .accepted)
    (haccepted : 1 ≤ s.runStart.toNat ∧ 511 ≤ s.runLength.toNat ∧ s.runLength.toNat ≤ 517 ∧ s.consecZeros = 3 ∧
      s.consecOnes = 0 ∧ s.burstOffset.toNat + 1 = s.runStart.toNat ∧
      s.runStart.toNat + s.runLength.toNat = s.scanPos.toNat) : LocatorInv s :=
  ⟨hread.1, hread.2, fun h => (nomatch hstate.symm.trans h), fun h => (nomatch hstate.symm.trans h), fun _ => haccepted⟩

theorem locatorInv_of_not_begun {s : State} (hread : ReadBefore s)
    (hstate : s.status.scanState = .notStarted ∨ s.status.scanState = .notFound) : LocatorInv s := by
  refine ⟨hread.1, hread.2, fun h => ?_, fun h => ?_, fun h => ?_⟩ <;> rw [h] at hstate <;> simp at hstate

theorem readBefore_of_scanPos_zero {s : State} (h : s.scanPos = 0) : ReadBefore s := by
  have hpos : s.scanPos.toNat = 0 := by rw [h]; rfl
  exact ⟨by omega, fun a ha => by omega⟩

/-- Reading the byte at SCAN_POS extends what has been read, and SCAN_POS does not wrap. -/
theorem readBefore_pastSample {s : State} (h : ReadBefore s) {b : Byte} (hread : capRead s s.scanPos.toNat = .ok b) :
    (pastSample s).scanPos.toNat = s.scanPos.toNat + 1 ∧ ReadBefore (pastSample s) := by
  obtain ⟨hsize, hbyte⟩ := (capRead_ok_iff _ _ _).mp hread
  have hmost := s.capSize.atMost
  have hpos : (pastSample s).scanPos.toNat = s.scanPos.toNat + 1 := by
    simp only [pastSample, BitVec.toNat_add]
    exact Nat.mod_eq_of_lt (by simp; omega)
  refine ⟨hpos, by rw [hpos]; exact hsize, fun a ha => ?_⟩
  rw [hpos] at ha
  rcases Nat.lt_succ_iff_lt_or_eq.mp ha with hlt | rfl
  · exact h.2 a hlt
  · exact fun hnone => nomatch hbyte.symm.trans hnone

/-- The run length counted in a candidate does not wrap, and still ends at SCAN_POS. -/
theorem runLength_succ {s : State} (h : LocatorInv s) (hburst : s.status.scanState = .inBurst)
    (hpos : (pastSample s).scanPos.toNat = s.scanPos.toNat + 1) :
    (s.runLength + 1).toNat = s.runLength.toNat + 1 ∧
      s.runStart.toNat + (s.runLength + 1).toNat = (pastSample s).scanPos.toNat := by
  obtain ⟨hrun, -⟩ := h.inBurst hburst
  have hlt := (pastSample s).scanPos.isLt
  have hsucc : (s.runLength + 1).toNat = s.runLength.toNat + 1 := by
    rw [BitVec.toNat_add]
    exact Nat.mod_eq_of_lt (by simp; omega)
  omega

/-- A two-bit counter below its limit counts on. -/
theorem counter_succ {c : BitVec 2} (hle : c.toNat ≤ 2) (hne : c ≠ 2) : c + 1 ≠ 0 ∧ (c + 1).toNat ≤ 2 := by
  revert c
  decide

/-- A scan step keeps the locator's part. -/
theorem ScanMove.keeps_locatorInv {s : State} {r : CmdResult} (h : LocatorInv s) (hmove : ScanMove s r) :
    r.Ends LocatorInv := by
  cases hmove with
  | captureEnd => simpa using locatorInv_of_not_begun (s := scanLost s) h.readBefore' (.inr rfl)
  | stop => simp
  | sample b hlen hread hone hsample =>
    obtain ⟨hpos, hbefore⟩ := readBefore_pastSample h.readBefore' hread
    cases hsample with
    | skip hidle => simpa using locatorInv_of_idle hbefore hidle (h.idle hidle)
    | candidate hidle =>
      simp only [ends_done]
      refine locatorInv_of_inBurst (s := candidateOpened _ _) hbefore rfl ⟨hpos.symm, ?_⟩
      simp [candidateOpened]
    | countOne hburst hones =>
      obtain ⟨-, -, -, -, hle⟩ := h.inBurst hburst
      obtain ⟨hsucc, hrun⟩ := runLength_succ h hburst hpos
      obtain ⟨hne, hle'⟩ := counter_succ hle hones
      simp only [ends_done]
      exact locatorInv_of_inBurst (s := oneCounted _) hbefore hburst
        ⟨hrun, (Nat.le_add_left 1 _).trans_eq hsucc.symm, .inl ⟨rfl, hne⟩, by simp [oneCounted], hle'⟩
    | thirdOne | discard =>
      simp only [ends_done]
      exact locatorInv_of_idle (s := closeCandidate _) hbefore rfl ⟨rfl, rfl, rfl, rfl⟩
    | countZero hburst hzeros =>
      obtain ⟨-, -, -, hle, -⟩ := h.inBurst hburst
      obtain ⟨hsucc, hrun⟩ := runLength_succ h hburst hpos
      obtain ⟨hne, hle'⟩ := counter_succ hle hzeros
      simp only [ends_done]
      exact locatorInv_of_inBurst (s := zeroCounted _) hbefore hburst
        ⟨hrun, (Nat.le_add_left 1 _).trans_eq hsucc.symm, .inr ⟨hne, rfl⟩, hle', by simp [zeroCounted]⟩
    | refuse => simpa using locatorInv_of_not_begun (s := scanLost (zeroCounted (pastSample s))) hbefore (.inr rfl)
    | accept hburst hzeros hwin hstart =>
      obtain ⟨hsucc, hrun⟩ := runLength_succ h hburst hpos
      have hne : s.runStart.toNat ≠ 0 := fun h0 => hstart (BitVec.eq_of_toNat_eq h0)
      have hoffset : (s.runStart - 1).toNat + 1 = s.runStart.toNat := by
        have := s.runStart.isLt
        rw [BitVec.toNat_sub]
        simp
        omega
      have hthree : s.consecZeros + 1 = 3 := by rw [show s.consecZeros = 2 from hzeros]; rfl
      simp only [ends_done]
      exact locatorInv_of_accepted (s := burstAccepted _) hbefore rfl
        ⟨Nat.one_le_iff_ne_zero.mpr hne, hwin.1, hwin.2, hthree, rfl, hoffset, hrun⟩

theorem scanAll_keeps_locatorInv {s : State} (h : LocatorInv s) : (scanAll s).Ends LocatorInv :=
  scanLoop_ends (fun _ hs hscan => (scanOnce_move hscan).keeps_locatorInv hs) _ s h

/-! ### The decoder's part -/

theorem decoderInv_of_zero {s : State} (hcount : s.mdecCount = 0) (hacc : s.mdecAcc = 0) : DecoderInv s := by
  constructor <;> simp [hcount, hacc]

/-- Acceptance starts the decoder afresh, and no other scan step touches it. -/
theorem ScanMove.keeps_decoderInv {s : State} {r : CmdResult} (h : DecoderInv s) (hmove : ScanMove s r) :
    r.Ends DecoderInv := by
  cases hmove with
  | captureEnd => simpa using h.congr (t := scanLost s) rfl
  | stop => simp
  | sample b hlen hread hone hsample =>
    cases hsample with
    | accept => simpa using decoderInv_of_zero (s := burstAccepted _) rfl rfl
    | _ =>
      simp only [ends_done, ends_raised]
      exact h.congr rfl

/-- The accumulator with one more bit (43_burst_locator.md R169). -/
def accWith (acc : Word256) (one : Bool) : Word256 := (acc <<< 1) ||| (BitVec.ofBool one).setWidth 256

theorem accWith_toNat (acc : Word256) (one : Bool) : (accWith acc one).toNat = (acc.toNat * 2 + one.toNat) % 2 ^ 256 := by
  have hone : ((BitVec.ofBool one).setWidth 256).toNat = one.toNat := by cases one <;> rfl
  have hbit : one.toNat < 2 ^ 1 := by cases one <;> decide
  have hmod : acc.toNat <<< 1 % 2 ^ 256 = (acc.toNat % 2 ^ 255) <<< 1 := by
    simp only [Nat.shiftLeft_eq]
    omega
  rw [accWith, BitVec.toNat_or, BitVec.toNat_shiftLeft, hone, hmod, ← Nat.shiftLeft_add_eq_or_of_lt hbit,
    Nat.shiftLeft_eq]
  omega

theorem bitTaken_mdecAcc (one : Bool) (s : State) : (bitTaken one s).mdecAcc = accWith s.mdecAcc one := by
  unfold bitTaken
  dsimp only
  split <;> rfl

theorem mdecCount_succ_toNat {s : State} (h : s.mdecCount.toNat < 256) :
    (s.mdecCount + 1).toNat = s.mdecCount.toNat + 1 := by
  rw [BitVec.toNat_add]
  exact Nat.mod_eq_of_lt (by simp; omega)

theorem bitTaken_keeps_decoderInv {s : State} (h : DecoderInv s) (hcount : s.mdecCount.toNat < 256) (one : Bool) :
    DecoderInv (bitTaken one s) := by
  have hsucc := mdecCount_succ_toNat hcount
  have hbit : one.toNat ≤ 1 := Bool.toNat_le one
  constructor
  · rw [bitTaken_mdecCount, hsucc]
    exact hcount
  · rw [bitTaken_mdecCount, bitTaken_mdecAcc, hsucc, accWith_toNat, pow_succ]
    have hacc := h.acc
    have hmod := Nat.mod_le (s.mdecAcc.toNat * 2 + one.toNat) (2 ^ 256)
    omega

/-! ### The layout's part -/

theorem layoutInv_of_unknown {s : State} (hknown : s.status.layoutKnown = false)
    (hzero : s.divider = 0 ∧ s.afLen = 0 ∧ s.pb1Len = 0) : LayoutInv s :=
  ⟨fun h => (nomatch hknown.symm.trans h), fun h => (nomatch hknown.symm.trans h), fun _ => hzero⟩

theorem layoutInv_of_known {d : Nat} (h : legalDivider d = true) (s : State) :
    LayoutInv (writeLayout true true d (agencyFixedLen d) (pb1LenOf d) s) := by
  obtain ⟨hlo, hhi, hstep⟩ := (legalDivider_iff d).mp h
  have hd : (BitVec.ofNat 16 d).toNat = d := Nat.mod_eq_of_lt (by omega)
  refine ⟨fun _ => rfl, fun _ => ⟨?_, ?_, ?_⟩, fun h => nomatch h⟩
  · change legalDivider (BitVec.ofNat 16 d).toNat = true
    rwa [hd]
  · change (BitVec.ofNat 8 (agencyFixedLen d)).toNat = (BitVec.ofNat 16 d).toNat - 47
    rw [hd, agencyFixedLen, prefixBits]
    exact Nat.mod_eq_of_lt (by omega)
  · change (BitVec.ofNat 8 (pb1LenOf d)).toNat = 192 - (BitVec.ofNat 16 d).toNat
    rw [hd, pb1LenOf]
    exact Nat.mod_eq_of_lt (by omega)

/-- Every end of ApplyResolve leaves a layout of R28. -/
theorem applyResolve_layoutInv (a : Nat) (s : State) : (applyResolve a s).Ends LayoutInv := by
  rcases applyResolve_cases a s with ⟨d, _, _, _, hres⟩ | ⟨d, _, hlegal, hres⟩ | ⟨_, hres⟩ <;> rw [hres]
  · simpa using layoutInv_of_unknown (s := writeLayout false false 0 0 0 s) rfl ⟨rfl, rfl, rfl⟩
  · simpa using layoutInv_of_known hlegal s
  · simpa using layoutInv_of_unknown (s := writeLayout true false 0 0 0 s) rfl ⟨rfl, rfl, rfl⟩

/-! ### The derived part -/

/-- Without derived flags there is nothing to promise. -/
theorem derivedInv_of_dropped {s : State} (hfields : s.status.fieldsValid = false)
    (hsplit : s.status.fieldsSplit = false) (hcrc : s.status.crcValid = false) (hmatch : s.status.crcMatch = false) :
    DerivedInv s := by
  constructor <;> simp [hfields, hsplit, hcrc, hmatch]

theorem verified_derivedInv {s : State} (h : DerivedInv s) (hpkt : s.status.pktValid = true) :
    DerivedInv (verified s) where
  fieldsNeedPacket := h.fieldsNeedPacket
  splitNeedsFields := h.splitNeedsFields
  crcNeedsPacket _ := hpkt
  matchNeedsCrc _ := rfl
  crcRegs _ := ⟨rfl, rfl, beq_iff_eq⟩
  fieldsWhole := h.fieldsWhole
  fieldsSplit := h.fieldsSplit

/-- CRC_COMPUTE writes the value that a verification has left in CRC_EXPECTED. -/
theorem crcComputed_derivedInv {s : State} (h : DerivedInv s) :
    DerivedInv { s with crcExpected := computeCrc s.packet } where
  fieldsNeedPacket := h.fieldsNeedPacket
  splitNeedsFields := h.splitNeedsFields
  crcNeedsPacket := h.crcNeedsPacket
  matchNeedsCrc := h.matchNeedsCrc
  crcRegs hcrc := ⟨rfl, (h.crcRegs hcrc).2⟩
  fieldsWhole := h.fieldsWhole
  fieldsSplit := h.fieldsSplit

theorem recordWritten_derivedInv {s : State} (h : DerivedInv s) (hlayout : LayoutInv s)
    (hpkt : s.status.pktValid = true) : DerivedInv (recordWritten s) where
  fieldsNeedPacket _ := hpkt
  splitNeedsFields _ := rfl
  crcNeedsPacket := h.crcNeedsPacket
  matchNeedsCrc := h.matchNeedsCrc
  crcRegs := h.crcRegs
  fieldsWhole _ hwhole := by
    have hknown : s.status.layoutKnown = false := hwhole
    simp [recordWritten, State.layout, hknown]
  fieldsSplit _ hsplit := by
    have hknown : s.status.layoutKnown = true := hsplit
    exact ⟨s.divider.toNat, (hlayout.known hknown).1, by simp [recordWritten, State.layout, hknown]⟩

/-! ### The parts of the commands -/

theorem writePacket_keeps_bodyInv {s : State} (h : BodyInv s) (v : Word256) : BodyInv (writePacket v s) :=
  ⟨h.capture.congr rfl, h.locator.congr rfl, h.decoder.congr rfl, h.layout.congr rfl,
    derivedInv_of_dropped rfl rfl rfl rfl⟩

theorem verifyPacket_keeps_bodyInv {s : State} (h : BodyInv s) (hpkt : s.status.pktValid = true) :
    (verifyPacket s).Ends BodyInv := by
  have hverified : BodyInv (verified s) :=
    ⟨h.capture.congr rfl, h.locator.congr rfl, h.decoder.congr rfl, h.layout.congr rfl, verified_derivedInv h.derived hpkt⟩
  rcases verifyPacket_cases s with ⟨_, hres⟩ | ⟨_, hres⟩ <;> rw [hres] <;> simpa using hverified

theorem decodeBody_keeps_bodyInv {s : State} (h : BodyInv s) (hpkt : s.status.pktValid = true) :
    (decodeBody s).Ends BodyInv :=
  verifyPacket_keeps_bodyInv (s := recordWritten s)
    ⟨h.capture.congr rfl, h.locator.congr rfl, h.decoder.congr rfl, h.layout.congr rfl,
      recordWritten_derivedInv h.derived h.layout hpkt⟩ hpkt

/-- What ApplyResolve leaves alone: everything but the layout registers. -/
theorem applyResolve_keeps_bodyInv {s : State} (h : BodyInv s) (a : Nat) :
    (applyResolve a s).Ends fun t => BodyInv t ∧ t.status.pktValid = s.status.pktValid := by
  have hlayout := applyResolve_layoutInv a s
  rcases applyResolve_cases a s with ⟨d, _, _, _, hres⟩ | ⟨d, _, _, hres⟩ | ⟨_, hres⟩ <;>
    rw [hres] at hlayout ⊢ <;> simp only [ends_done, ends_raised] at hlayout ⊢ <;>
    exact ⟨⟨h.capture.congr rfl, h.locator.congr rfl, h.decoder.congr rfl, hlayout, h.derived.congr rfl⟩, rfl⟩

theorem encodeBody_keeps_bodyInv {s : State} (h : BodyInv s) : (encodeBody s).Ends BodyInv := by
  rcases encodeBody_cases s with ⟨_, hres⟩ | ⟨_, _, hres⟩ | ⟨_, _, ⟨bad, _, hres⟩ | ⟨v, _, hres⟩⟩ <;> rw [hres]
  · simpa using h
  · simpa using h
  · simpa using h
  · simpa using writePacket_keeps_bodyInv h v

/-- A scan writes no register of the other three parts. -/
theorem ScanKeeps.capture_layout_derived {s t : State} (h : ScanKeeps s t) :
    captureView t = captureView s ∧ layoutView t = layoutView s ∧ derivedView t = derivedView s := by
  rw [h]
  exact ⟨rfl, rfl, rfl⟩

theorem scanOnce_keeps_bodyInv {s : State} (h : BodyInv s) (hscan : s.status.scanState.scanning = true) :
    (scanOnce s).Ends BodyInv := by
  have hmove := scanOnce_move hscan
  refine ends_mono (ends_and hmove.keeps
    (ends_and (hmove.keeps_locatorInv h.locator) (hmove.keeps_decoderInv h.decoder))) ?_
  rintro t ⟨hkeeps, hlocator, hdecoder⟩
  obtain ⟨hcapture, hlayout, hderived⟩ := hkeeps.capture_layout_derived
  exact ⟨h.capture.congr hcapture, hlocator, hdecoder, h.layout.congr hlayout, h.derived.congr hderived⟩

theorem scanAll_keeps_bodyInv {s : State} (h : BodyInv s) : (scanAll s).Ends BodyInv :=
  scanLoop_ends (fun _ hs hscan => scanOnce_keeps_bodyInv hs hscan) _ s h

theorem bitTaken_keeps_bodyInv {s : State} (h : BodyInv s) (hcount : s.mdecCount.toNat < 256) (one : Bool) :
    BodyInv (bitTaken one s) := by
  have hdecoder := bitTaken_keeps_decoderInv h.decoder hcount one
  unfold bitTaken at hdecoder ⊢
  dsimp only at hdecoder ⊢
  split at hdecoder
  · next hlast =>
    rw [if_pos hlast]
    exact ⟨h.capture.congr rfl, h.locator.congr rfl, hdecoder, h.layout.congr rfl, derivedInv_of_dropped rfl rfl rfl rfl⟩
  · next hlast =>
    rw [if_neg hlast]
    exact ⟨h.capture.congr rfl, h.locator.congr rfl, hdecoder, h.layout.congr rfl, h.derived.congr rfl⟩

theorem mdecOnce_keeps_bodyInv {s : State} (h : BodyInv s) (hcount : s.mdecCount.toNat < 256) :
    (mdecOnce s).Ends BodyInv := by
  rcases mdecOnce_cases s with ⟨f, _, hres⟩ | ⟨b, _, hres⟩ <;> rw [hres]
  · simp
  · simpa using bitTaken_keeps_bodyInv h hcount (sample b)

theorem mdecAll_keeps_bodyInv {s : State} (h : BodyInv s) : (mdecAll s).Ends BodyInv :=
  mdecLoop_ends (fun _ hs hcount => mdecOnce_keeps_bodyInv hs hcount) _ s h

/-- SCAN_INIT's body needs of the state before it only what it does not clear. -/
theorem startScan_keeps_bodyInv {s : State} (hcapture : CaptureInv s) (hlayout : LayoutInv s) :
    (startScan s).Ends BodyInv := by
  rcases startScan_cases s with ⟨_, hres⟩ | ⟨_, hres⟩ <;> rw [hres] <;> simp only [ends_done, ends_raised]
  · exact ⟨hcapture.congr rfl, locatorInv_of_not_begun (readBefore_of_scanPos_zero rfl) (.inl rfl),
      decoderInv_of_zero rfl rfl, hlayout.congr rfl, derivedInv_of_dropped rfl rfl rfl rfl⟩
  · exact ⟨hcapture.congr rfl, locatorInv_of_idle (readBefore_of_scanPos_zero rfl) rfl ⟨rfl, rfl, rfl, rfl⟩,
      decoderInv_of_zero rfl rfl, hlayout.congr rfl, derivedInv_of_dropped rfl rfl rfl rfl⟩

theorem softReset_keeps_bodyInv {s : State} (h : BodyInv s) : BodyInv (softResetState s) :=
  ⟨h.capture.congr rfl, locatorInv_of_not_begun (readBefore_of_scanPos_zero rfl) (.inl rfl),
    decoderInv_of_zero rfl rfl, layoutInv_of_unknown rfl ⟨rfl, rfl, rfl⟩, derivedInv_of_dropped rfl rfl rfl rfl⟩

/-! ### Every command -/

/-- DECODE runs only on a packet. -/
theorem pktValid_of_decode_met {s : State} (h : ¬ BitVec.ofNat 32 (unmetMask .decode s) ≠ 0) :
    s.status.pktValid = true := by
  cases hpkt : s.status.pktValid with
  | true => rfl
  | false => cases hlayout : s.status.layoutValid <;> simp [unmetMask, packetMissing, hpkt, hlayout] at h

theorem commandResult_keeps_bodyInv (i : Instr) {s : State} (h : BodyInv s) : (commandResult i s).Ends BodyInv := by
  cases i with
  | nop => simpa [commandResult] using h
  | softReset => simpa [commandResult] using softReset_keeps_bodyInv h
  | loadShort => simpa [commandResult] using writePacket_keeps_bodyInv h _
  | slice =>
    rw [commandResult]
    refine needPacket_ends h fun _ => ?_
    simp only [ends_done]
    exact h.congr rfl rfl rfl rfl rfl
  | crcCompute =>
    rw [commandResult]
    refine needPacket_ends h fun _ => ?_
    simp only [ends_done]
    exact ⟨h.capture.congr rfl, h.locator.congr rfl, h.decoder.congr rfl, h.layout.congr rfl,
      crcComputed_derivedInv h.derived⟩
  | pushClear | crcClear | crcByte =>
    simp only [commandResult, ends_done]
    exact h.congr rfl rfl rfl rfl rfl
  | push width =>
    rw [commandResult]
    split <;> simp only [ends_done, ends_raised]
    · exact h.congr rfl rfl rfl rfl rfl
    · exact h
  | crcVerify => exact needPacket_ends h fun hpkt => verifyPacket_keeps_bodyInv h hpkt
  | scanInit => exact startScan_keeps_bodyInv h.capture h.layout
  | scanStep => exact needScanning_ends h fun hscan => scanOnce_keeps_bodyInv h hscan
  | scanRun => exact needScanning_ends h fun _ => scanAll_keeps_bodyInv h
  | mdecStep =>
    exact needDecoding_ends h fun _ hne => mdecOnce_keeps_bodyInv h (lt_of_le_of_ne h.decoder.count hne)
  | mdecRun => exact needDecoding_ends h fun _ _ => mdecAll_keeps_bodyInv h
  | locate =>
    exact ends_andThen (ends_andThen (startScan_keeps_bodyInv h.capture h.layout) (fun _ ht => ht)
      fun _ ht => scanAll_keeps_bodyInv ht) (fun _ ht => ht) fun _ ht => mdecAll_keeps_bodyInv ht
  | resolve => exact ends_mono (applyResolve_keeps_bodyInv h _) fun _ ht => ht.1
  | resolvePkt =>
    rw [commandResult]
    exact needPacket_ends h fun _ => ends_mono (applyResolve_keeps_bodyInv h _) fun _ ht => ht.1
  | decode =>
    rw [commandResult, missingBits_eq]
    split
    · simpa using h
    · next hmet => exact decodeBody_keeps_bodyInv h (pktValid_of_decode_met hmet)
  | encode => exact encodeBody_keeps_bodyInv h
  | dissect =>
    rw [commandResult]
    exact needPacket_ends h fun hpkt => ends_andThen (applyResolve_keeps_bodyInv h _) (fun _ ht => ht.1)
      fun _ ht => decodeBody_keeps_bodyInv ht.1 (ht.2.trans hpkt)
  | craft =>
    exact ends_andThen (applyResolve_keeps_bodyInv h _) (fun _ ht => ht.1) fun _ ht => encodeBody_keeps_bodyInv ht.1

theorem Inv.of_body {t : State} (h : BodyInv t) (houtcome : OutcomeInv t.err t.errInfo) : Inv t :=
  ⟨h.capture, h.locator, h.decoder, h.layout, h.derived, houtcome⟩

/-- A command keeps the body's part along its pseudocode, and its outcome is one of the table's. -/
theorem exec_keeps_inv {i : Instr} {s t : State} (h : BodyInv s) (ht : exec i s = .next t) : Inv t := by
  obtain ⟨-, houtcome⟩ := outcomesAreTheTablesOutcomes i s t ht
  obtain ⟨u, e, info, rfl, hu⟩ := exec_next_of_ends (commandResult_keeps_bodyInv i h) ht
  exact Inv.of_body (hu.congr rfl rfl rfl rfl rfl) houtcome

/-! ### Every host access -/

theorem powerOn_bodyInv (c : CapSize) : BodyInv (State.powerOn c) :=
  ⟨⟨rfl, fun _ _ h => (nomatch h), Nat.zero_le _⟩,
    locatorInv_of_not_begun (readBefore_of_scanPos_zero rfl) (.inl rfl), decoderInv_of_zero rfl rfl,
    layoutInv_of_unknown rfl ⟨rfl, rfl, rfl⟩, derivedInv_of_dropped rfl rfl rfl rfl⟩

/-- Settles O52: an empty capture, a scan that has not begun, counters at 0 and no flag set. -/
theorem resetMeetsTheInvariant : Obligations.ResetMeetsTheInvariant :=
  ⟨.of_body (powerOn_bodyInv _) rfl, fun c => .of_body (powerOn_bodyInv c) rfl⟩

theorem capLenStored_le (s : State) (v : Word256) : (capLenStored s v).toNat ≤ s.capSize.bytes :=
  (Nat.mod_le _ _).trans (min_le_right _ _)

/-- Of the host's register writes only CAP_LEN's touches a register of the invariant. -/
theorem writeReg_keeps_inv {s : State} (h : Inv s) (v : Word256) (r : RegName) : Inv (writeReg s v r) := by
  have hbody : BodyInv (writeReg s v r) := by
    cases r with
    | capLen =>
      exact ⟨⟨h.capture.canonical, h.capture.inside, capLenStored_le s v⟩, h.locator.congr rfl, h.decoder.congr rfl,
        h.layout.congr rfl, h.derived.congr rfl⟩
    | _ => exact h.body.congr rfl rfl rfl rfl rfl
  have houtcome : (writeReg s v r).err = s.err ∧ (writeReg s v r).errInfo = s.errInfo := by
    cases r <;> exact ⟨rfl, rfl⟩
  exact .of_body hbody (houtcome.1 ▸ houtcome.2 ▸ h.outcome)

/-- A byte written by the host stands in CAP, and no byte that the scan has read vanishes. -/
theorem hostWriteCap_keeps_inv {s : State} (h : Inv s) (i : Nat) (b : Byte) : Inv (hostWriteCap i b s) := by
  have hread := read_hostWriteCap s i (v := b)
  have hwf := wf_hostWriteCap s i b h.capture.canonical
  unfold hostWriteCap at hread hwf ⊢
  split_ifs at hread hwf ⊢ with hi
  · refine .of_body ⟨⟨hwf, fun a c hc => ?_, h.capture.capLen⟩,
      ⟨h.locator.scanPos, fun a ha => ?_, h.locator.idle, h.locator.inBurst, h.locator.accepted⟩,
      h.decoder.congr rfl, h.layout.congr rfl, h.derived.congr rfl⟩ h.outcome
    · rw [hread] at hc
      split_ifs at hc with ha
      · exact ha.1 ▸ hi
      · exact h.capture.inside a c hc
    · change Memory.read (Memory.write s.cap i b) a ≠ none
      have hold := h.locator.readBefore a ha
      rw [Memory.read_write]
      split
      · exact Option.some_ne_none b
      · exact hold
  · exact h

theorem runWord_keeps_inv {w : Word32} {s t : State} (h : BodyInv s) (ht : runWord w s = .next t) : Inv t := by
  unfold runWord at ht
  split at ht
  · exact exec_keeps_inv h ht
  · next why hwhy =>
    cases ht
    exact .of_body (h.congr rfl rfl rfl rfl rfl) ⟨why, hwhy⟩

theorem hostWriteReg_keeps_inv {index : BitVec 6} {v : Word256} {s t : State} (h : Inv s)
    (ht : hostWriteReg index v s = .next t) : Inv t := by
  unfold hostWriteReg at ht
  split at ht
  · have hlatched : BodyInv { s with cmd := cmdWord v } := h.body.congr rfl rfl rfl rfl rfl
    exact runWord_keeps_inv hlatched ht
  · cases ht
    exact writeReg_keeps_inv h v _
  · cases ht
    exact h

theorem hostAccess_keeps_inv {a : HostAccess} {s t : State} (h : Inv s) (ht : hostAccess a s = .next t) : Inv t := by
  cases a with
  | writeReg index v => exact hostWriteReg_keeps_inv h ht
  | writeCap i b =>
    cases ht
    exact hostWriteCap_keeps_inv h i b
  | writeWireIn j b =>
    cases ht
    unfold hostWriteWireIn
    split
    · exact .of_body (h.body.congr rfl rfl rfl rfl rfl) h.outcome
    · exact h
  | powerOnReset =>
    cases ht
    exact .of_body ((powerOn_bodyInv s.capSize).congr rfl rfl rfl rfl rfl) rfl
  | readReg | readCap | readWireIn | writeWireOut | readWireOut =>
    cases ht
    exact .of_body (h.body.congr rfl rfl rfl rfl rfl) h.outcome

/-- Settles O51: a step waits or performs the host's next access, and every access keeps each part of the invariant. -/
theorem everyStepKeepsTheInvariant : Obligations.EveryStepKeepsTheInvariant := by
  intro s t h ht
  cases hhost : s.host with
  | nil =>
    rw [step_of_no_access hhost] at ht
    cases ht
    exact h
  | cons a rest =>
    rw [step_of_access hhost] at ht
    have htaken : Inv { s with host := rest } := .of_body (h.body.congr rfl rfl rfl rfl rfl) h.outcome
    exact hostAccess_keeps_inv htaken ht

end Sys2Proof.Machine

/-! PROOFS. The laws of `slice`, the wire form as bit ranges and LOAD_SHORT (spec/41_bitslice_byteorder.md R120, R122,
spec/20_memory.md R65, R66). -/

namespace Sys2Proof.Machine

/-! ### Slices -/

/-- Settles O12: the formula, and each law from the packet being below 2^256. -/
theorem sliceLaws : Obligations.SliceLaws := by
  intro p shift width
  have hp := p.isLt
  have hshifted : p.toNat / 2 ^ shift < 2 ^ (256 - shift) := by
    rw [Nat.div_lt_iff_lt_mul (Nat.two_pow_pos shift), ← pow_add]
    exact hp.trans_le (Nat.pow_le_pow_right (by decide) (by omega))
  simp only [slice_eq_div_mod]
  refine ⟨trivial, by rw [pow_zero, Nat.mod_one], fun hshift => ?_, fun hwidth => ?_, ?_⟩
  · rw [Nat.sub_eq_zero_of_le hshift, pow_zero, Nat.lt_one_iff] at hshifted
    rw [hshifted, Nat.zero_mod]
  · exact Nat.mod_eq_of_lt (hshifted.trans_le (Nat.pow_le_pow_right (by decide) hwidth))
  · rcases min_choice width 256 with hmin | hmin <;> rw [hmin]
    · exact Nat.mod_lt _ (Nat.two_pow_pos width)
    · exact (slice_eq_div_mod p shift width) ▸ slice_lt_two_pow_256 p shift width

/-! ### The wire form as bit ranges -/

theorem wireByte_toNat (p : Word256) {j : Nat} (hj : j < 32) :
    (wireByte p j).toNat = bitRange p (255 - 8 * j) (248 - 8 * j) := by
  have hwidth : 255 - 8 * j - (248 - 8 * j) + 1 = 8 := by omega
  rw [wireByte, BitVec.extractLsb'_toNat, bitRange, hwidth, Nat.shiftRight_eq_div_pow]

theorem wireByte_fromBytes (bytes : Vector Byte 32) {j : Nat} (hj : j < 32) :
    wireByte (fromBytes bytes.toList) j = bytes[j] := by
  have hinverse := toBytes_fromBytes bytes.toList bytes.length_toList
  rw [← getElem_toBytes _ j (by simpa using hj)]
  simp only [hinverse, Vector.getElem_toList]

theorem exec_loadShort (s : State) :
    exec .loadShort s =
      .next { s with packet := fromBytes s.wireInBytes, status := packetWritten s.status, err := .ok, errInfo := 0 } := rfl

/-- Settles O10: byte j of the packet's wire form is WIRE_IN's. -/
theorem loadShortLoadsTheWireForm : Obligations.LoadShortLoadsTheWireForm := by
  intro s
  refine ⟨_, exec_loadShort s, fun j hj => ?_, rfl⟩
  rw [← wireByte_toNat _ hj]
  exact congrArg BitVec.toNat (wireByte_fromBytes s.wireIn hj)

end Sys2Proof.Machine

/-! PROOFS. The host's side: the CMD write, the register file by index, the byte accesses and the resets
(spec/10_state.md R21 to R24, R34, R35, spec/20_memory.md R60 to R72, spec/40_control.md R110 to R112,
spec/70_reset_and_hazards.md R290). -/

namespace Sys2Proof.Machine

/-! ### The command cycle -/

theorem runWord_of_legal {w : Word32} {i : Instr} (h : decode w = .ok i) (s : State) : runWord w s = exec i s := by
  rw [runWord, h]

theorem runWord_of_illegal {w : Word32} {why : DecodeError} (h : decode w = .error why) (s : State) :
    runWord w s = .next { s with err := .illegalCommand, errInfo := w } := by
  rw [runWord, h]; rfl

theorem step_of_cmd_write {s : State} {v : Word256} {rest : List HostAccess} (h : s.host = .writeReg 0x00 v :: rest) :
    step s = runWord (cmdWord v) { s with host := rest, cmd := cmdWord v } := by
  rw [step_of_access h]
  exact hostWriteReg_cmd v _

/-- Settles O5. -/
theorem stepRunsTheDecodedCommand : Obligations.StepRunsTheDecodedCommand := by
  intro s v rest i hhost hdecode
  rw [step_of_cmd_write hhost]
  exact runWord_of_legal hdecode _

/-- Settles O6: the placed word is a CMD write of a 32-bit word, which the bus carries whole. -/
theorem placedWordRunsNext : Obligations.PlacedWordRunsNext := by
  intro s nbits w i hdecode
  have hword : cmdWord ((BitVec.ofNat 32 (w % 2 ^ nbits)).setWidth 256) = BitVec.ofNat 32 (w % 2 ^ nbits) := by
    rw [cmdWord, BitVec.setWidth_setWidth_of_le _ (by decide), BitVec.setWidth_eq]
  have hlegal : decode (BitVec.ofNat 32 (w % 2 ^ nbits)) = .ok i := by
    unfold decodeTableWord at hdecode
    split at hdecode
    · next hok => rw [hok, Option.some.inj hdecode]
    · cases hdecode
  rw [State.withFetchWord, step_of_cmd_write (beforeCommand_host s _), hword, runWord_of_legal hlegal]
  rfl

/-- Settles O7. -/
theorem illegalWordOnlyReports : Obligations.IllegalWordOnlyReports := by
  intro s v rest why hhost hdecode
  rw [step_of_cmd_write hhost]
  exact runWord_of_illegal hdecode _

/-- Settles O8: NOP's pseudocode is empty. -/
theorem nopOnlyAcknowledges : Obligations.NopOnlyAcknowledges := fun _ => rfl

/-! ### The resets -/

theorem word_statusReset : Status.reset.word = 0 := by decide

theorem regValue_softReset (s : State) (r : RegName) :
    regValue ((softResetState s).withOutcome .ok 0) r =
      if (regRow r).softReset = .cleared then 0 else regValue s r := by
  cases r with
  | status => exact congrArg (BitVec.setWidth 256) word_statusReset
  | _ => rfl

/-- Settles O9: register by register against the column of R22. -/
theorem softResetClearsAndKeeps : Obligations.SoftResetClearsAndKeeps := fun s =>
  ⟨_, rfl, fun r hr => (regValue_softReset s r).trans (if_pos hr), fun r hr => (regValue_softReset s r).trans (if_neg hr),
    rfl, rfl, rfl, rfl, rfl, rfl, fun _ => rfl⟩

theorem regValue_powerOnReset (s : State) (r : RegName) : regValue (powerOnReset s) r = 0 := by
  cases r with
  | status => exact congrArg (BitVec.setWidth 256) word_statusReset
  | _ => rfl

/-- Settles O59: PACKET is 0 with every other register, so WIRE_OUT, its view, reads 0. -/
theorem powerOnResetZeroesTheBlock : Obligations.PowerOnResetZeroesTheBlock := by
  intro s rest hhost
  refine ⟨_, step_of_access hhost, regValue_powerOnReset _, rfl, fun j => ?_, fun j => ?_, fun _ => rfl, rfl, rfl, rfl, rfl⟩
  · rw [powerOnReset_wireIn, Vector.toList_replicate]
    rcases Nat.lt_or_ge j 32 with hj | hj
    · rw [List.getD_replicate _ hj]
    · exact List.getD_eq_default _ _ (by simpa using hj)
  · rw [wireOutByte, powerOnReset_packet, wireByte]
    exact BitVec.extractLsb'_zero

/-! ### The register at an index -/

theorem indexColumn_eq : indexColumn = allRegs.map fun r => ((regRow r).index, r) := rfl

theorem mem_allRegs (r : RegName) : r ∈ allRegs := by cases r <;> decide

theorem regRow_index_injective : Function.Injective fun r => (regRow r).index := by
  have hnodup : (allRegs.map fun r => (regRow r).index).Nodup := by decide
  intro r r' h
  exact List.inj_on_of_nodup_map hnodup (mem_allRegs r) (mem_allRegs r') h

theorem regAt_eq_some_iff (k : BitVec 6) (r : RegName) : regAt k = some r ↔ (regRow r).index = k.toNat := by
  constructor
  · intro h
    simpa using List.find?_some h
  · intro h
    cases hk : regAt k with
    | none =>
      have hnone := List.find?_eq_none.mp hk r (mem_allRegs r)
      simp [h] at hnone
    | some r' =>
      have hr' : (regRow r').index = k.toNat := by simpa using List.find?_some hk
      rw [regRow_index_injective (hr'.trans h.symm)]

theorem mem_indexColumn_iff (n : Nat) (r : RegName) : (n, r) ∈ indexColumn ↔ (regRow r).index = n := by
  simp [indexColumn_eq, mem_allRegs]

/-- The indices that no row has (10_state.md R22). -/
def unassigned : List Nat :=
  [0x1A, 0x1B, 0x1C, 0x1D, 0x1E, 0x1F, 0x2C, 0x2D, 0x2E, 0x2F, 0x3A, 0x3B, 0x3C, 0x3D, 0x3E, 0x3F]

theorem mem_unassigned_of_regAt_none {k : BitVec 6} (h : regAt k = none) : k.toNat ∈ unassigned := by
  revert k
  decide

/-! ### Host reads -/

theorem errNumber_eq_code (e : Err) : errNumber e = e.code := by cases e <;> rfl

theorem readByIndex_index (s : State) (r : RegName) : readByIndex s (regRow r).index = readReg s r := by
  cases r with
  | err => exact congrArg (BitVec.setWidth 256) (errNumber_eq_code s.err)
  | _ => rfl

theorem readByIndex_unassigned (s : State) {n : Nat} (h : n ∈ unassigned) : readByIndex s n = 0 := by
  simp only [unassigned, List.mem_cons, List.not_mem_nil, or_false] at h
  rcases h with rfl | rfl | rfl | rfl | rfl | rfl | rfl | rfl | rfl | rfl | rfl | rfl | rfl | rfl | rfl | rfl <;> rfl

theorem hostReadReg_eq_readByIndex (s : State) (k : BitVec 6) : hostReadReg s k = readByIndex s k.toNat := by
  unfold hostReadReg
  split
  · next r hr => rw [← (regAt_eq_some_iff k r).mp hr, readByIndex_index]
  · next hnone => rw [readByIndex_unassigned s (mem_unassigned_of_regAt_none hnone)]

theorem hostReadWireIn_eq_getD (s : State) (n : Nat) : hostReadWireIn s n = s.wireIn.toList.getD n 0 := by
  unfold hostReadWireIn
  split
  · next hn => rw [List.getD_eq_getElem _ _ (by simpa using hn), Vector.getElem_toList]
  · next hn => rw [List.getD_eq_default _ _ (by simpa using hn)]

/-- Settles O56: the index column lists every register once at its own index, and each read puts its value on the bus. -/
theorem hostReadsHaveNoEffect : Obligations.HostReadsHaveNoEffect := by
  refine ⟨fun k r => (regAt_eq_some_iff k r).trans (mem_indexColumn_iff _ r).symm, fun s rest k n =>
    ⟨fun hhost => ?_, fun hhost => ?_, fun hhost => ?_, fun hhost => ?_, fun hhost => ?_⟩⟩ <;> rw [step_of_access hhost]
  · rw [hostAccess, hostReadReg_eq_readByIndex]; rfl
  · rw [hostAccess, hostReadReg]
    cases regAt k <;> rfl
  · refine ⟨hostReadCap s n, rfl, fun hout => if_neg (by omega), fun v hin hv => ?_⟩
    rw [hostReadCap, if_pos hin, hv]
  · rw [hostAccess, hostReadWireIn_eq_getD]; rfl
  · refine ⟨hostReadWireOut s n, rfl, fun hin => ?_, fun hout => if_neg (by omega)⟩
    rw [hostReadWireOut, if_pos hin, wireOutByte, wireByte_toNat _ hin]

/-! ### Host writes -/

theorem writeByIndex_index (s : State) (v : Word256) (r : RegName) :
    writeByIndex s (regRow r).index v = writeReg s v r := by
  cases r <;> rfl

theorem writeByIndex_unassigned (s : State) (v : Word256) {n : Nat} (h : n ∈ unassigned) : writeByIndex s n v = s := by
  simp only [unassigned, List.mem_cons, List.not_mem_nil, or_false] at h
  rcases h with rfl | rfl | rfl | rfl | rfl | rfl | rfl | rfl | rfl | rfl | rfl | rfl | rfl | rfl | rfl | rfl <;> rfl

theorem hostWriteReg_eq_writeByIndex {k : BitVec 6} (h : regAt k ≠ some .cmd) (v : Word256) (s : State) :
    hostWriteReg k v s = .next (writeByIndex s k.toNat v) := by
  unfold hostWriteReg
  split
  · next hcmd => exact absurd hcmd h
  · next r _ hr => rw [← (regAt_eq_some_iff k r).mp hr, writeByIndex_index]
  · next hnone => rw [writeByIndex_unassigned s v (mem_unassigned_of_regAt_none hnone)]

/-- A host write touches no memory, nothing of the host's side, and no register of another index. -/
theorem writeReg_frame (s : State) (v : Word256) (r : RegName) :
    (writeReg s v r).host = s.host ∧ (writeReg s v r).cap = s.cap ∧ (writeReg s v r).wireIn = s.wireIn ∧
      (writeReg s v r).readData = s.readData := by
  cases r <;> exact ⟨rfl, rfl, rfl, rfl⟩

theorem regValue_writeReg (s : State) (v : Word256) (r r' : RegName) :
    regValue (writeReg s v r) r' = if r' = r then regValue (writeReg s v r) r else regValue s r' := by
  cases r with
  | capLen | pushVal | agencyIn | overrideCtl | overrideDivider | iHeader | iTagType | iAppId | iGroupId | iAgencyId
  | iSerial | iAgencyFixed | iPb1 | iHov | iPb2 => cases r' <;> rfl
  | _ =>
    split_ifs with h
    · rw [h]
    · rfl

theorem writeReg_of_r {r : RegName} (h : (regRow r).access = .r) (s : State) (v : Word256) : writeReg s v r = s := by
  cases r with
  | capLen | pushVal | agencyIn | overrideCtl | overrideDivider | iHeader | iTagType | iAppId | iGroupId | iAgencyId
  | iSerial | iAgencyFixed | iPb1 | iHov | iPb2 => cases h
  | _ => rfl

theorem capLenStored_toNat (s : State) (v : Word256) :
    (capLenStored s v).toNat = min (v.toNat % 2 ^ 32) s.capSize.bytes :=
  Nat.mod_eq_of_lt ((min_le_left _ _).trans_lt (Nat.mod_lt _ (by decide)))

/-- The low bits of the bus value, as wide as the register; CAP_LEN takes no more than CAP_SIZE. -/
theorem regValue_writeReg_rw {r : RegName} (h : (regRow r).access = .rw) (s : State) (v : Word256) :
    (regValue (writeReg s v r) r).toNat =
      if r = .capLen then min (v.toNat % 2 ^ 32) s.capSize.bytes else v.toNat % 2 ^ (regRow r).width := by
  cases r with
  | capLen =>
    rw [if_pos rfl, ← capLenStored_toNat]
    exact BitVec.toNat_setWidth_of_le (by decide)
  | agencyIn | overrideCtl | overrideDivider =>
    exact (BitVec.toNat_setWidth_of_le (by decide)).trans (BitVec.toNat_setWidth ..)
  | pushVal | iHeader | iTagType | iAppId | iGroupId | iAgencyId | iSerial | iAgencyFixed | iPb1 | iHov | iPb2 =>
    exact (Nat.mod_eq_of_lt v.isLt).symm
  | _ => cases h

/-- Settles O57: an assigned index writes its register, an unassigned one nothing. -/
theorem hostRegisterWritesStore : Obligations.HostRegisterWritesStore := by
  intro s rest k v hhost hcmd
  have hstep : step s = .next (writeByIndex { s with host := rest } k.toNat v) := by
    rw [step_of_access hhost]
    exact hostWriteReg_eq_writeByIndex hcmd v _
  refine ⟨_, hstep, rfl, ?_⟩
  cases hreg : regAt k with
  | none =>
    rw [writeByIndex_unassigned _ v (mem_unassigned_of_regAt_none hreg)]
    exact ⟨rfl, rfl, rfl, rfl, fun r _ => by cases r <;> rfl, fun _ h => (nomatch h), fun _ h => nomatch h⟩
  | some r =>
    rw [← (regAt_eq_some_iff k r).mp hreg, writeByIndex_index]
    obtain ⟨hrest, hcap, hwire, hdata⟩ := writeReg_frame { s with host := rest } v r
    have hstay (r' : RegName) : regValue { s with host := rest } r' = regValue s r' := by cases r' <;> rfl
    refine ⟨hrest, hcap, hwire, hdata, fun r' hne => ?_, ?_, ?_⟩
    · rw [regValue_writeReg, if_neg fun h => hne (congrArg some h.symm), hstay]
    · rintro r' ⟨⟩ haccess
      rw [writeReg_of_r haccess, hstay]
    · rintro r' ⟨⟩ haccess
      exact regValue_writeReg_rw haccess _ v

theorem toList_wireIn_set (s : State) {n : Nat} (hn : n < 32) (b : Byte) (j : Nat) :
    (s.wireIn.set n b hn).toList.getD j 0 = if j = n then b else s.wireIn.toList.getD j 0 := by
  have hlen : s.wireIn.toList.length = 32 := s.wireIn.length_toList
  rw [Vector.toList_set, List.getD_eq_getElem?_getD, List.getElem?_set]
  by_cases hj : j = n
  · rw [if_pos hj.symm, if_pos (by omega), if_pos hj, Option.getD_some]
  · rw [if_neg (Ne.symm hj), if_neg hj, List.getD_eq_getElem?_getD]

/-- Settles O58: inside their memory the two byte writes store, outside it and to WIRE_OUT nothing happens. -/
theorem hostByteWritesStore : Obligations.HostByteWritesStore := by
  refine fun s rest n b => ⟨fun hhost => ?_, fun hhost => ?_, fun hhost => step_of_access hhost⟩
  · refine ⟨_, step_of_access hhost, ?_, fun a => read_hostWriteCap { s with host := rest } n a b⟩
    unfold hostWriteCap
    split <;> rfl
  · refine ⟨_, step_of_access hhost, ?_, fun j => ?_⟩ <;> unfold hostWriteWireIn <;> split
    · rfl
    · rfl
    · next hn => simpa [hn] using toList_wireIn_set s hn b j
    · next hn => simp [hn]

/-! ### The STATUS word -/

/-- The STATUS word as its flags below each other, bit 7 with the value 0 (10_state.md R23). -/
theorem word_eq_concat (st : Status) :
    st.word = ((((((((0#21 ++ st.scanState.code).concat false).concat st.crcMatch).concat st.crcValid).concat
      st.fieldsSplit).concat st.fieldsValid).concat st.layoutKnown).concat st.layoutValid).concat st.pktValid := rfl

theorem extractLsb'_word_scanState (st : Status) : st.word.extractLsb' 8 3 = st.scanState.code := by
  refine BitVec.eq_of_getLsbD_eq fun i hi => ?_
  rw [BitVec.getLsbD_extractLsb', word_eq_concat, Nat.add_comm 8 i]
  simp only [BitVec.getLsbD_concat_succ, BitVec.getLsbD_append, hi, decide_true, Bool.true_and, if_true]

theorem toNat_concat_lt {w n : Nat} {x : BitVec w} (h : x.toNat < 2 ^ n) (b : Bool) :
    (x.concat b).toNat < 2 ^ (n + 1) := by
  have hb := Bool.toNat_le b
  rw [BitVec.toNat_concat, pow_succ]
  omega

theorem word_lt (st : Status) : st.word.toNat < 2 ^ 11 := by
  have hcode : (0#21 ++ st.scanState.code).toNat < 2 ^ 3 := by
    rw [BitVec.toNat_append]
    simpa using st.scanState.code.isLt
  have hcrc := toNat_concat_lt (toNat_concat_lt (toNat_concat_lt hcode false) st.crcMatch) st.crcValid
  have hfields := toNat_concat_lt (toNat_concat_lt hcrc st.fieldsSplit) st.fieldsValid
  exact toNat_concat_lt (toNat_concat_lt (toNat_concat_lt hfields st.layoutKnown) st.layoutValid) st.pktValid

/-- Settles O60: the flags bit by bit, SCAN_STATE's code above them, and eleven bits in all. -/
theorem statusWordHasTheListedBits : Obligations.StatusWordHasTheListedBits := by
  intro st
  refine ⟨?_, ?_, ?_, ?_, ?_, ?_, ?_, ?_, ?_, word_lt st⟩
  case refine_9 =>
    rw [extractLsb'_word_scanState]
    cases st.scanState <;> rfl
  all_goals simp only [word_eq_concat, BitVec.getLsbD_concat, reduceIte, Nat.reduceEqDiff, Nat.reduceSub]
end Sys2Proof.Machine

/-! PROOFS. The CRC unit bit by bit: the byte procedure is eight serial steps, a packet's CRC is serial over its bits, and
every single flipped bit shows (spec/42_crc16.md R140 to R149). -/

namespace Sys2Proof.Machine

/-! ### A byte step is eight bit steps -/

/-- The shift of a sum: the register takes the top bit of the message as its serial step does, and the rest of the
message moves up. -/
theorem crcShift_xor (c d : BitVec 16) : crcShift (c ^^^ d) = crcBit c (d.getLsbD 15) ^^^ (d <<< 1) := by
  have hmsb : (c ^^^ d).msb = Bool.xor (c.getLsbD 15) (d.getLsbD 15) := by
    rw [BitVec.msb_xor, BitVec.msb_eq_getLsbD_last, BitVec.msb_eq_getLsbD_last]
  rw [crcShift, crcBit, hmsb, BitVec.shiftLeft_xor_distrib, crcPoly]
  split
  · rw [BitVec.xor_assoc, BitVec.xor_comm (d <<< 1), ← BitVec.xor_assoc]
  · rfl

theorem bitsDown_shiftLeft_one (d : BitVec 16) {n : Nat} (hn : n ≤ 15) :
    bitsDown d 15 (n + 1) = d.getLsbD 15 :: bitsDown (d <<< 1) 15 n := by
  simp only [bitsDown, List.range_succ_eq_map, List.map_cons, List.map_map, Nat.sub_zero, List.cons.injEq, true_and]
  refine List.map_congr_left fun k hk => ?_
  have hk : k < n := List.mem_range.mp hk
  have hpos : ¬ 15 - k < 1 := by omega
  have hin : 15 - k < 16 := by omega
  have hprev : 15 - k - 1 = 15 - (k + 1) := by omega
  simp only [Function.comp_apply, BitVec.getLsbD_shiftLeft, hpos, hin, hprev, decide_true, decide_false,
    Bool.not_false, Bool.true_and]

/-- Shifting with the message added beforehand is feeding its bits from the top, up to the bits not yet reached. -/
theorem crcShifts_xor (n : Nat) : ∀ c d : BitVec 16, n ≤ 16 →
    crcShifts n (c ^^^ d) = crcSerial c (bitsDown d 15 n) ^^^ (d <<< n) := by
  induction n with
  | zero => intro c d _; simp [crcShifts, bitsDown, crcSerial]
  | succ n ih =>
    intro c d hn
    rw [crcShifts, crcShift_xor, ih _ _ (by omega), bitsDown_shiftLeft_one d (by omega), ← BitVec.shiftLeft_add,
      Nat.add_comm 1 n]
    rfl

theorem bitsDown_byte_shifted (b : Byte) : bitsDown (b.setWidth 16 <<< 8) 15 8 = bitsDown b 7 8 := by
  refine List.map_congr_left fun k hk => ?_
  have hk : k < 8 := List.mem_range.mp hk
  have hlow : ¬ 15 - k < 8 := by omega
  have hin : 15 - k < 16 := by omega
  have hin' : 7 - k < 16 := by omega
  have hbit : 15 - k - 8 = 7 - k := by omega
  simp only [BitVec.getLsbD_shiftLeft, BitVec.getLsbD_setWidth, hlow, hin, hin', hbit, decide_true, decide_false,
    Bool.not_false, Bool.true_and]

theorem crcUpdate_eq_serial (c : BitVec 16) (b : Byte) : crcUpdate c b = crcSerial c (bitsDown b 7 8) := by
  have hgone : (b.setWidth 16 <<< 8) <<< 8 = 0#16 := by
    rw [← BitVec.shiftLeft_add]
    exact BitVec.shiftLeft_eq_zero (by decide)
  rw [crcUpdate, crcShifts_xor 8 _ _ (by decide), bitsDown_byte_shifted, hgone, BitVec.xor_zero]

/-! ### A packet's CRC is serial over its bits -/

theorem crcSerial_append (c : BitVec 16) (l l' : List Bool) : crcSerial c (l ++ l') = crcSerial (crcSerial c l) l' :=
  List.foldl_append

theorem bitsDown_add {w : Nat} (v : BitVec w) (hi m n : Nat) :
    bitsDown v hi (m + n) = bitsDown v hi m ++ bitsDown v (hi - m) n := by
  simp [bitsDown, List.range_add, Nat.sub_sub]

theorem bitsDown_wireByte (p : Word256) {j : Nat} (hj : j < 32) :
    bitsDown (wireByte p j) 7 8 = bitsDown p (255 - 8 * j) 8 := by
  refine List.map_congr_left fun k hk => ?_
  have hk : k < 8 := List.mem_range.mp hk
  have hin : 7 - k < 8 := by omega
  have hbit : 248 - 8 * j + (7 - k) = 255 - 8 * j - k := by omega
  rw [wireByte, BitVec.getLsbD_extractLsb', hbit, decide_eq_true hin, Bool.true_and]

theorem crc16_wireBytes (p : Word256) {n : Nat} (hn : n ≤ 32) :
    crc16 ((List.range n).map (wireByte p)) = crcSerial 0 (bitsDown p 255 (8 * n)) := by
  induction n with
  | zero => rfl
  | succ n ih =>
    have ih := ih (by omega)
    rw [crc16] at ih ⊢
    rw [List.range_succ, List.map_append, List.foldl_append, ih, Nat.mul_succ, bitsDown_add, crcSerial_append,
      ← bitsDown_wireByte p (by omega), ← crcUpdate_eq_serial]
    rfl

theorem computeCrc_eq_serial (p : Word256) : computeCrc p = crcSerial 0 (bitsDown p 255 240) := by
  rw [computeCrc, toBytes, ← List.map_take, List.take_range]
  exact crc16_wireBytes p (n := 30) (by decide)

/-- Settles O15: the byte by shifting its bits out of the register's top, the packet byte by byte. -/
theorem crcEqualsItsBitSerialForm : Obligations.CrcEqualsItsBitSerialForm :=
  ⟨crcUpdate_eq_serial, computeCrc_eq_serial⟩

/-! ### What the CRC sees -/

/-- The polynomial is odd, so the register's low bit tells whether it was added, and the shifted bits tell the rest. -/
theorem crcBit_injective (m : Bool) : Function.Injective (crcBit · m) := by
  intro c c' h
  have hlow (x : BitVec 16) : (crcBit x m).getLsbD 0 = Bool.xor (x.getLsbD 15) m := by
    unfold crcBit
    split <;> simp_all
  have htop : c.getLsbD 15 = c'.getLsbD 15 := by
    have hbit := congrArg (BitVec.getLsbD · 0) h
    simp only [hlow] at hbit
    exact Bool.xor_right_inj.mp ((Bool.xor_comm _ _).trans (hbit.trans (Bool.xor_comm _ _)))
  have hshift : c <<< 1 = c' <<< 1 := by
    simp only [crcBit, htop] at h
    split at h
    · exact BitVec.xor_left_inj _ |>.mp h
    · exact h
  refine BitVec.eq_of_getLsbD_eq fun i hi => ?_
  rcases Nat.lt_or_ge i 15 with hi' | hi'
  · have hbit := congrArg (BitVec.getLsbD · (i + 1)) hshift
    have hin : i + 1 < 16 := by omega
    have hpos : ¬ i + 1 < 1 := by omega
    simpa only [BitVec.getLsbD_shiftLeft, hin, hpos, decide_true, decide_false, Bool.not_false, Bool.true_and,
      Nat.add_sub_cancel] using hbit
  · rwa [show i = 15 by omega]

/-- The other message bit adds the polynomial where it was not added, and leaves it out where it was. -/
theorem crcBit_not (c : BitVec 16) (m : Bool) : crcBit c (!m) = crcBit c m ^^^ 0x1021 := by
  simp only [crcBit, Bool.xor_not]
  cases Bool.xor (c.getLsbD 15) m <;> simp

theorem crcBit_not_ne (c : BitVec 16) (m : Bool) : crcBit c (!m) ≠ crcBit c m := by
  rw [crcBit_not]
  intro h
  have hpoly : (0x1021 : BitVec 16) = 0 := (BitVec.xor_right_inj (crcBit c m)).mp (h.trans BitVec.xor_zero.symm)
  exact absurd hpoly (by decide)

theorem crcSerial_injective (l : List Bool) : Function.Injective (crcSerial · l) := by
  induction l with
  | nil => exact fun _ _ h => h
  | cons m l ih => exact fun _ _ h => crcBit_injective m (ih h)

theorem bitRange_eq_extractLsb' (p : Word256) : bitRange p 255 16 = (p.extractLsb' 16 240).toNat := by
  rw [BitVec.extractLsb'_toNat, bitRange, Nat.shiftRight_eq_div_pow]

/-- The message is P[255:16]. -/
theorem bitsDown_eq_of_bitRange {p q : Word256} (h : bitRange p 255 16 = bitRange q 255 16) :
    bitsDown p 255 240 = bitsDown q 255 240 := by
  have hslice : p.extractLsb' 16 240 = q.extractLsb' 16 240 :=
    BitVec.eq_of_toNat_eq (by rwa [← bitRange_eq_extractLsb', ← bitRange_eq_extractLsb'])
  refine List.map_congr_left fun k hk => ?_
  have hk : k < 240 := List.mem_range.mp hk
  have hbit := congrArg (BitVec.getLsbD · (239 - k)) hslice
  have hpos : 16 + (239 - k) = 255 - k := by omega
  simpa only [BitVec.getLsbD_extractLsb', show 239 - k < 240 by omega, decide_true, Bool.true_and, hpos] using hbit

/-- The bits of a word about bit `hi - m`: those above it, itself, and those below it. -/
theorem bitsDown_split {w : Nat} (v : BitVec w) (hi m n : Nat) :
    bitsDown v hi (m + (1 + n)) = bitsDown v hi m ++ v.getLsbD (hi - m) :: bitsDown v (hi - m - 1) n := by
  rw [bitsDown_add, bitsDown_add]
  simp [bitsDown]

theorem bitsDown_flip_of_not_mem (p : Word256) {i hi n : Nat} (h : hi < i ∨ i + n ≤ hi) :
    bitsDown (p ^^^ BitVec.twoPow 256 i) hi n = bitsDown p hi n := by
  refine List.map_congr_left fun k hk => ?_
  have hk : k < n := List.mem_range.mp hk
  have hne : ¬ i = hi - k := by omega
  simp [hne]

/-- Settles O16: the bits before the flipped one leave the same register, the flipped bit two different ones, and the
bits after it keep them apart. -/
theorem crcSeesEverySingleBitFlip : Obligations.CrcSeesEverySingleBitFlip := by
  refine ⟨fun p q h => ?_, fun p i hlo hhi h => ?_⟩
  · rw [computeCrc_eq_serial, computeCrc_eq_serial, bitsDown_eq_of_bitRange h]
  have hlen : 240 = 255 - i + (1 + (i - 16)) := by omega
  have hat : 255 - (255 - i) = i := by omega
  have hflip : (p ^^^ BitVec.twoPow 256 i).getLsbD i = !p.getLsbD i := by
    simp [show i < 256 by omega]
  rw [computeCrc_eq_serial, computeCrc_eq_serial, hlen, bitsDown_split, bitsDown_split, hat,
    bitsDown_flip_of_not_mem p (by omega), bitsDown_flip_of_not_mem p (by omega), hflip, crcSerial_append,
    crcSerial_append] at h
  exact crcBit_not_ne _ _ (crcSerial_injective _ h)

/-! ### The CRC commands -/

theorem exec_crcByte (a : BitVec 9) (s : State) :
    exec (.crcByte a) s = .next { s with crc := crcUpdate s.crc (a.setWidth 8), err := .ok, errInfo := 0 } := rfl

theorem bitsDown_low_byte (a : BitVec 9) : bitsDown (a.setWidth 8) 7 8 = bitsDown a 7 8 := by
  refine List.map_congr_left fun k hk => ?_
  have hk : 7 - k < 8 := by omega
  rw [BitVec.getLsbD_setWidth, decide_eq_true hk, Bool.true_and]

/-- Settles O17: the byte is A's low eight bits. -/
theorem crcByteFeedsEightBits : Obligations.CrcByteFeedsEightBits := by
  intro a s
  rw [exec_crcByte, crcUpdate_eq_serial, bitsDown_low_byte]

/-- A run of CRC_BYTE folds the bytes into CRC, each command starting where the one before it ended. -/
theorem execAll_crcBytes (bytes : List Byte) :
    ∀ s : State, execAll (bytes.map fun b => .crcByte (b.setWidth 9)) { s with err := .ok, errInfo := 0 } =
      .next { s with crc := bytes.foldl crcUpdate s.crc, err := .ok, errInfo := 0 } := by
  induction bytes with
  | nil => exact fun s => rfl
  | cons b bytes ih =>
    intro s
    have hbyte : (b.setWidth 9).setWidth 8 = b := by
      rw [BitVec.setWidth_setWidth_of_le _ (by decide), BitVec.setWidth_eq]
    rw [List.map_cons, execAll, exec_crcByte, hbyte]
    exact ih { s with crc := crcUpdate s.crc b }

/-- Settles O18: the clear puts CRC at the fold's start. -/
theorem crcBytesLeaveTheXmodemCrc : Obligations.CrcBytesLeaveTheXmodemCrc := by
  intro bytes s
  rw [execAll, exec_crcClear]
  exact execAll_crcBytes bytes { s with crc := crcInit }

/-- Settles O19. -/
theorem crcComputeWritesExpected : Obligations.CrcComputeWritesExpected := by
  intro s hpkt
  rw [exec_eq_conclude, commandResult, needPacket_of_valid hpkt, conclude_done, State.withOutcome, computeCrc_eq_serial]

theorem storedCrc_toNat (p : Word256) : (storedCrc p).toNat = bitRange p 15 0 := by
  rw [storedCrc, BitVec.toNat_setWidth, bitRange, pow_zero, Nat.div_one]

/-- What a verification answers (42_crc16.md R147). -/
def verifyOutcome (s : State) : State :=
  { verified s with
    err := if computeCrc s.packet = storedCrc s.packet then .ok else .crcMismatch
    errInfo := if computeCrc s.packet = storedCrc s.packet then 0
      else mismatchInfo (computeCrc s.packet) (storedCrc s.packet) }

theorem conclude_verifyPacket (s : State) : conclude (verifyPacket s) = .next (verifyOutcome s) := by
  rcases verifyPacket_cases s with ⟨heq, hres⟩ | ⟨hne, hres⟩ <;> rw [hres, verifyOutcome]
  · rw [if_pos heq, if_pos heq]; rfl
  · rw [if_neg hne, if_neg hne]; rfl

/-- The outcome by the two CRCs that a verification left. -/
theorem verifyOutcome_err (s : State) :
    ((verifyOutcome s).crcExpected = (verifyOutcome s).crcActual →
      (verifyOutcome s).err = .ok ∧ (verifyOutcome s).errInfo = 0) ∧
    ((verifyOutcome s).crcExpected ≠ (verifyOutcome s).crcActual →
      (verifyOutcome s).err = .crcMismatch ∧ (verifyOutcome s).errInfo.toNat =
        (verifyOutcome s).crcExpected.toNat * 2 ^ 16 + (verifyOutcome s).crcActual.toNat) := by
  refine ⟨fun heq => ⟨if_pos heq, if_pos heq⟩, fun hne => ⟨if_neg hne, ?_⟩⟩
  rw [← mismatchInfo_toNat]
  exact congrArg BitVec.toNat (if_neg hne)

/-- Settles O20. -/
theorem crcVerifyRecordsAndReports : Obligations.CrcVerifyRecordsAndReports := by
  intro s hpkt
  refine ⟨verifyOutcome s, ?_, computeCrc_eq_serial s.packet, storedCrc_toNat s.packet, (verifyOutcome_err s).1,
    (verifyOutcome_err s).2, rfl⟩
  rw [exec_eq_conclude, commandResult, needPacket_of_valid hpkt, conclude_verifyPacket]

end Sys2Proof.Machine

/-! PROOFS. The loops: SCAN_RUN and MDEC_RUN are their steps repeated, what they end in, and LOCATE's three parts
(spec/43_burst_locator.md R165 to R173, spec/60_exceptions.md R272). -/

namespace Sys2Proof.Machine

/-! ### Commands in a row -/

theorem execAll_cons_of_next {i : Instr} {s t : State} (h : exec i s = .next t) (rest : List Instr) :
    execAll (i :: rest) s = execAll rest t := by rw [execAll, h]

theorem execAll_cons_of_fault {i : Instr} {s : State} {f : Fault} (h : exec i s = .fault f) (rest : List Instr) :
    execAll (i :: rest) s = .fault f := by rw [execAll, h]

theorem execAll_singleton (i : Instr) (s : State) : execAll [i] s = exec i s := by
  rw [execAll]
  cases exec i s <;> rfl

/-- A row of commands does not read the outcome before it. -/
theorem execAll_withOutcome {l : List Instr} (hl : l ≠ []) (s : State) (e : Err) (info : Word32) :
    execAll l (s.withOutcome e info) = execAll l s := by
  cases l with
  | nil => exact absurd rfl hl
  | cons i rest => rw [execAll, execAll, exec_withOutcome]

/-! ### What a scan keeps, register by register -/

theorem ScanKeeps.status {s t : State} (h : ScanKeeps s t) :
    t.status = { s.status with scanState := t.status.scanState } := congrArg State.status h

theorem ScanKeeps.packet {s t : State} (h : ScanKeeps s t) : t.packet = s.packet :=
  (congrArg State.packet h).trans rfl

theorem ScanKeeps.cap {s t : State} (h : ScanKeeps s t) : t.cap = s.cap :=
  (congrArg State.cap h).trans rfl

theorem ScanKeeps.capSize {s t : State} (h : ScanKeeps s t) : t.capSize = s.capSize :=
  (congrArg State.capSize h).trans rfl

theorem ScanKeeps.capLen {s t : State} (h : ScanKeeps s t) : t.capLen = s.capLen :=
  (congrArg State.capLen h).trans rfl

/-- What the core reads of CAP depends on CAP alone. -/
theorem capRead_congr {s t : State} (hcap : t.cap = s.cap) (hsize : t.capSize = s.capSize) (i : Nat) :
    capRead t i = capRead s i := by simp only [capRead, hcap, hsize]

theorem sampleAt_congr {s t : State} (hcap : t.cap = s.cap) (i : Nat) : sampleAt t i = sampleAt s i := by
  simp only [sampleAt, hcap]

theorem sampleAt_of_hasSample {s : State} {i : Nat} {one : Bool} (h : hasSample s i one) : sampleAt s i = one := by
  obtain ⟨-, b, hread, hone⟩ := h
  rw [sampleAt, hread]
  exact hone

theorem capRead_of_hasSample {s : State} {i : Nat} {one : Bool} (h : hasSample s i one) :
    ∃ b, capRead s i = .ok b ∧ sample b = one := by
  obtain ⟨hin, b, hread, hone⟩ := h
  exact ⟨b, (capRead_ok_iff _ _ _).mpr ⟨hin, hread⟩, hone⟩

/-! ### SCAN_RUN -/

theorem exec_scanStep_of_scanning {s : State} (h : s.status.scanState.scanning = true) :
    exec .scanStep s = conclude (scanOnce s) := by
  rw [exec_eq_conclude, commandResult, needScanning_of_scanning h]

theorem exec_scanRun_of_scanning {s : State} (h : s.status.scanState.scanning = true) :
    exec .scanRun s = conclude (scanAll s) := by
  rw [exec_eq_conclude, commandResult, needScanning_of_scanning h]

/-- A raise or a stop ends the loop with the step's own outcome. -/
theorem scanLoop_succ_of_not_done {s : State} (hscan : s.status.scanState.scanning = true)
    (h : ∀ t, scanOnce s ≠ .done t) (n : Nat) : scanLoop (n + 1) s = scanOnce s := by
  rw [scanLoop_succ, if_pos hscan]
  cases hres : scanOnce s with
  | done t => exact absurd hres (h t)
  | reported e info t => exact absurd hres (scanOnce_not_reported hscan)
  | raised e info t => rfl
  | faulted f => rfl

theorem scanLoop_succ_of_done {s t : State} (hscan : s.status.scanState.scanning = true) (h : scanOnce s = .done t)
    (n : Nat) : scanLoop (n + 1) s = scanLoop n t := by
  rw [scanLoop_succ, if_pos hscan, h, andThen_done]

/-- Settles O25: no sample is left, so one step raises and the loop's bound is one round. -/
theorem scanEndsAtTheCaptureEnd : Obligations.ScanEndsAtTheCaptureEnd := by
  intro s hstate hend
  have hscan := (scanning_iff _).mpr hstate
  have hres : scanOnce s = .raised .burstNotFound 0 (scanLost s) := by
    rcases scanOnce_cases s with ⟨_, hres⟩ | ⟨hlen, _⟩ | ⟨hlen, _⟩
    · exact hres
    · omega
    · omega
  have hloop : scanAll s = scanOnce s := scanLoop_succ_of_not_done hscan (by simp [hres]) _
  rw [exec_scanRun_of_scanning hscan, exec_scanStep_of_scanning hscan, hloop, hres]
  exact ⟨rfl, rfl⟩

/-- As many steps as the loop has rounds give the loop's end, since no step reads the outcome before it. -/
theorem scanLoop_eq_execAll (m : Nat) :
    ∀ s : State, s.status.scanState.scanning = true → s.capLen.toNat - s.scanPos.toNat < m →
      ∃ n, 1 ≤ n ∧ n ≤ m ∧ conclude (scanLoop m s) = execAll (List.replicate n .scanStep) s := by
  induction m with
  | zero => intro s _ h; omega
  | succ m ih =>
    intro s hscan hm
    by_cases hdone : ∃ t, scanOnce s = .done t
    · obtain ⟨t, hres⟩ := hdone
      obtain ⟨hlen, hpos, hcap, hnext⟩ := scanOnce_done hscan hres
      have hexec : exec .scanStep s = .next (t.withOutcome .ok 0) := by
        rw [exec_scanStep_of_scanning hscan, hres, conclude_done]
      rw [scanLoop_succ_of_done hscan hres]
      rcases hnext with hscan' | ⟨hacc, -⟩
      · obtain ⟨n, hn, hnm, hrest⟩ := ih t hscan' (by rw [hcap]; omega)
        refine ⟨n + 1, by omega, by omega, ?_⟩
        rw [List.replicate_succ, execAll_cons_of_next hexec, execAll_withOutcome (by simp; omega), hrest]
      · refine ⟨1, le_rfl, by omega, ?_⟩
        rw [scanLoop_of_not_scanning (by rw [hacc]; rfl), List.replicate_one, execAll_singleton, hexec, conclude_done]
    · refine ⟨1, le_rfl, by omega, ?_⟩
      rw [scanLoop_succ_of_not_done hscan (not_exists.mp hdone), List.replicate_one, execAll_singleton,
        exec_scanStep_of_scanning hscan]

/-- Settles O26: the loop round by round, and its end. -/
theorem scanRunIsRepeatedScanStep : Obligations.ScanRunIsRepeatedScanStep := by
  intro s hstate
  have hscan := (scanning_iff _).mpr hstate
  obtain ⟨n, hn, hle, heq⟩ := scanLoop_eq_execAll _ s hscan (Nat.lt_succ_self _)
  rw [exec_scanRun_of_scanning hscan]
  refine ⟨n, hn, hle, heq, fun t ht => ?_⟩
  have hend := scanAll_end hscan
  revert ht hend
  generalize scanAll s = r
  rintro ht (⟨u, ⟨hacc, -⟩, -⟩ | ⟨info, u, -, hlost, -⟩ | f) <;> cases ht
  · exact .inl hacc
  · exact .inr hlost

/-- A scan stops only at an index from SCAN_POS to below CAP_LEN that the core cannot read. -/
theorem scanLoop_faulted (n : Nat) :
    ∀ (s : State) (f : Fault), scanLoop n s = .faulted f →
      ∃ i, s.scanPos.toNat ≤ i ∧ i < s.capLen.toNat ∧ capRead s i = .error f := by
  induction n with
  | zero => intro s f h; cases h
  | succ n ih =>
    intro s f h
    by_cases hscan : s.status.scanState.scanning = true
    · by_cases hdone : ∃ t, scanOnce s = .done t
      · obtain ⟨t, hres⟩ := hdone
        obtain ⟨-, hpos, hcap, -⟩ := scanOnce_done hscan hres
        have hkeeps : ScanKeeps s t := by simpa [hres] using (scanOnce_move hscan).keeps
        rw [scanLoop_succ_of_done hscan hres] at h
        obtain ⟨i, hlo, hhi, hread⟩ := ih t f h
        exact ⟨i, by omega, hcap ▸ hhi, capRead_congr hkeeps.cap hkeeps.capSize i ▸ hread⟩
      · rw [scanLoop_succ_of_not_done hscan (not_exists.mp hdone)] at h
        have hmove := scanOnce_move hscan
        rw [h] at hmove
        cases hmove with
        | stop _ hlen hread => exact ⟨_, le_rfl, hlen, hread⟩
        | sample b _ _ _ hsample => cases hsample
    · rw [scanLoop_of_not_scanning (by simpa using hscan)] at h
      cases h

theorem scanAll_not_faulted {s : State} (h : readable s s.scanPos.toNat s.capLen.toNat) (f : Fault) :
    scanAll s ≠ .faulted f := by
  intro hf
  obtain ⟨i, hlo, hhi, herr⟩ := scanLoop_faulted _ s f hf
  obtain ⟨one, hone⟩ := h i hlo hhi
  obtain ⟨b, hok, -⟩ := capRead_of_hasSample hone
  cases hok.symm.trans herr

/-- Settles O27: the scan's two ends that are no stop, with the shared end. -/
theorem scanRunAcceptsOrFindsNothing : Obligations.ScanRunAcceptsOrFindsNothing := by
  intro s hstate hread
  have hscan := (scanning_iff _).mpr hstate
  have hstop := scanAll_not_faulted hread
  have hkeeps := scanAll_keeps s
  have hend := scanAll_end hscan
  rw [exec_scanRun_of_scanning hscan]
  revert hstop hkeeps hend
  generalize scanAll s = r
  rintro hstop hkeeps (⟨t, ⟨hacc, ⟨hmin, hmax⟩, hzeros, hoffset, hcount, hzero⟩, hlo, hhi⟩ |
    ⟨info, t, hinfo, hlost, hlo, hhi⟩ | f)
  · have hkeeps : ScanKeeps s t := by simpa using hkeeps
    exact ⟨_, rfl, .inl ⟨hacc, rfl, rfl, hmin, hmax, hzeros, hoffset, hcount, hzero⟩, hlo,
      hhi.trans (le_max_left _ _), congrArg (State.withOutcome · .ok 0) hkeeps⟩
  · have hkeeps : ScanKeeps s t := by simpa using hkeeps
    exact ⟨_, rfl, .inr ⟨hlost, rfl, hinfo⟩, hlo, hhi, congrArg (State.withOutcome · .burstNotFound info) hkeeps⟩
  · exact absurd rfl (hstop f)

/-! ### MDEC_STEP and MDEC_RUN -/

theorem mdecOnce_of_hasSample {s : State} {one : Bool}
    (h : hasSample s (s.burstOffset.toNat + 2 * s.mdecCount.toNat) one) : mdecOnce s = .done (bitTaken one s) := by
  obtain ⟨b, hok, rfl⟩ := capRead_of_hasSample h
  rcases mdecOnce_cases s with ⟨f, herr, _⟩ | ⟨b', hok', hres⟩
  · cases hok.symm.trans herr
  · cases hok.symm.trans hok'
    exact hres

/-- A decoded bit short of the 256th (43_burst_locator.md R169). -/
def bitShifted (one : Bool) (s : State) : State :=
  { s with mdecAcc := accWith s.mdecAcc one, mdecCount := s.mdecCount + 1 }

theorem bitTaken_of_last {s : State} (h : s.mdecCount.toNat + 1 = 256) (one : Bool) :
    bitTaken one s = writePacket (accWith s.mdecAcc one) (bitShifted one s) := if_pos h

theorem bitTaken_of_not_last {s : State} (h : s.mdecCount.toNat + 1 ≠ 256) (one : Bool) :
    bitTaken one s = bitShifted one s := if_neg h

theorem accWith_eq_ofNat (acc : Word256) (one : Bool) :
    accWith acc one = BitVec.ofNat 256 (acc.toNat * 2 + one.toNat) := by
  apply BitVec.eq_of_toNat_eq
  rw [accWith_toNat, BitVec.toNat_ofNat]

theorem exec_mdecStep_of_ready {s : State} (hstate : s.status.scanState = .accepted) (hcount : s.mdecCount.toNat ≠ 256) :
    exec .mdecStep s = conclude (mdecOnce s) := by
  rw [exec_eq_conclude, commandResult, needDecoding_of_ready hstate hcount]

theorem exec_mdecRun_of_ready {s : State} (hstate : s.status.scanState = .accepted) (hcount : s.mdecCount.toNat ≠ 256) :
    exec .mdecRun s = conclude (mdecAll s) := by
  rw [exec_eq_conclude, commandResult, needDecoding_of_ready hstate hcount]

/-- Settles O29: the bit step by whether its bit is the 256th. -/
theorem mdecStepTakesOneBit : Obligations.MdecStepTakesOneBit := by
  intro s one hstate hcount hsample
  rw [exec_mdecStep_of_ready hstate (by omega), mdecOnce_of_hasSample hsample, conclude_done]
  extract_lets acc shifted
  have hacc : accWith s.mdecAcc one = acc := accWith_eq_ofNat _ _
  split_ifs with hlast
  · rw [bitTaken_of_last (by rw [hlast]; rfl), bitShifted, hacc]; rfl
  · have hne : s.mdecCount.toNat + 1 ≠ 256 := fun h =>
      hlast (BitVec.eq_of_toNat_eq (show s.mdecCount.toNat = 255 by omega))
    rw [bitTaken_of_not_last hne, bitShifted, hacc]; rfl

theorem bitTaken_scanState (one : Bool) (s : State) : (bitTaken one s).status.scanState = s.status.scanState := by
  unfold bitTaken
  dsimp only
  split <;> rfl

theorem mdecLoop_succ_of_lt {s : State} (h : s.mdecCount.toNat < 256) (n : Nat) :
    mdecLoop (n + 1) s = (mdecOnce s).andThen (mdecLoop n) := by rw [mdecLoop_succ, if_pos h]

/-- As many steps as the loop has rounds give the loop's end. -/
theorem mdecLoop_eq_execAll (n : Nat) :
    ∀ s : State, s.status.scanState = .accepted → s.mdecCount.toNat + (n + 1) = 256 →
      conclude (mdecLoop (n + 1) s) = execAll (List.replicate (n + 1) .mdecStep) s := by
  induction n with
  | zero =>
    intro s hstate hcount
    rw [mdecLoop_succ_of_lt (by omega), List.replicate_one, execAll_singleton,
      exec_mdecStep_of_ready hstate (by omega)]
    rcases mdecOnce_cases s with ⟨f, _, hres⟩ | ⟨b, _, hres⟩ <;> rw [hres] <;> rfl
  | succ n ih =>
    intro s hstate hcount
    have hexec := exec_mdecStep_of_ready hstate (by omega)
    rw [mdecLoop_succ_of_lt (by omega), List.replicate_succ]
    rcases mdecOnce_cases s with ⟨f, _, hres⟩ | ⟨b, _, hres⟩ <;> rw [hres] at hexec ⊢
    · exact (execAll_cons_of_fault hexec _).symm
    · have hcount' : (bitTaken (sample b) s).mdecCount.toNat + (n + 1) = 256 := by
        rw [bitTaken_mdecCount, mdecCount_succ_toNat (by omega)]
        omega
      rw [andThen_done, execAll_cons_of_next hexec, execAll_withOutcome (by simp),
        ih _ ((bitTaken_scanState _ s).trans hstate) hcount']

/-- Settles O30. -/
theorem mdecRunIsRepeatedMdecStep : Obligations.MdecRunIsRepeatedMdecStep := by
  intro s hstate hcount
  obtain ⟨n, hn⟩ : ∃ n, 256 - s.mdecCount.toNat = n + 1 := ⟨255 - s.mdecCount.toNat, by omega⟩
  rw [exec_mdecRun_of_ready hstate (by omega), mdecAll, pktBits, hn]
  exact mdecLoop_eq_execAll n s hstate (by omega)

/-- The whole packet written (43_burst_locator.md R169). -/
def packetDecoded (acc : Word256) (s : State) : State := writePacket acc { s with mdecAcc := acc, mdecCount := 256 }

theorem accWith_getLsbD_zero (acc : Word256) (one : Bool) : (accWith acc one).getLsbD 0 = one := by
  cases one <;> simp [accWith]

theorem accWith_getLsbD_succ (acc : Word256) (one : Bool) {i : Nat} (hi : i + 1 < 256) :
    (accWith acc one).getLsbD (i + 1) = acc.getLsbD i := by
  have hhigh : ((BitVec.ofBool one).setWidth 256).getLsbD (i + 1) = false := by
    rw [BitVec.getLsbD_setWidth, BitVec.getLsbD_of_ge _ _ (by omega), Bool.and_false]
  have hpos : ¬ i + 1 < 1 := by omega
  rw [accWith, BitVec.getLsbD_or, hhigh, BitVec.getLsbD_shiftLeft]
  simp only [hi, hpos, decide_true, decide_false, Bool.not_false, Bool.true_and, Bool.or_false, Nat.add_sub_cancel]

/-- The loop to the 256th bit: each used sample in its place, the bits that MDEC_ACC held above them. -/
theorem mdecLoop_decodes (n : Nat) :
    ∀ s : State, s.mdecCount.toNat + (n + 1) = 256 →
      (∀ k, k ≤ n → ∃ one, hasSample s (s.burstOffset.toNat + 2 * (s.mdecCount.toNat + k)) one) →
      ∃ acc, mdecLoop (n + 1) s = .done (packetDecoded acc s) ∧
        (∀ k, k ≤ n → acc.getLsbD (n - k) = sampleAt s (s.burstOffset.toNat + 2 * (s.mdecCount.toNat + k))) ∧
        ∀ i, n + 1 + i < 256 → acc.getLsbD (n + 1 + i) = s.mdecAcc.getLsbD i := by
  induction n with
  | zero =>
    intro s hcount hsamples
    obtain ⟨one, hone⟩ := hsamples 0 le_rfl
    have hlast : s.mdecCount + 1 = 256 :=
      BitVec.eq_of_toNat_eq ((mdecCount_succ_toNat (s := s) (by omega)).trans hcount)
    refine ⟨accWith s.mdecAcc one, ?_, fun k hk => ?_, fun i hi => ?_⟩
    · rw [mdecLoop_succ_of_lt (by omega), mdecOnce_of_hasSample hone, andThen_done, mdecLoop_zero,
        bitTaken_of_last hcount, bitShifted, hlast, packetDecoded]
    · obtain rfl : k = 0 := by omega
      rw [sampleAt_of_hasSample hone]
      exact accWith_getLsbD_zero _ _
    · rw [Nat.add_comm (0 + 1) i]
      exact accWith_getLsbD_succ _ _ (by omega)
  | succ n ih =>
    intro s hcount hsamples
    obtain ⟨one, hone⟩ := hsamples 0 (Nat.zero_le _)
    have hsucc : (bitShifted one s).mdecCount.toNat = s.mdecCount.toNat + 1 := mdecCount_succ_toNat (by omega)
    have hindex (k : Nat) : s.mdecCount.toNat + 1 + k = s.mdecCount.toNat + (k + 1) := by omega
    obtain ⟨acc, hloop, hlow, hhigh⟩ := ih (bitShifted one s) (by omega) fun k hk => by
      rw [hsucc, hindex]
      exact hsamples (k + 1) (by omega)
    refine ⟨acc, ?_, fun k hk => ?_, fun i hi => ?_⟩
    · rw [mdecLoop_succ_of_lt (by omega), mdecOnce_of_hasSample hone, andThen_done, bitTaken_of_not_last (by omega), hloop]
      rfl
    · cases k with
      | zero =>
        have hbit := hhigh 0 (by omega)
        rw [sampleAt_of_hasSample hone]
        exact hbit.trans (accWith_getLsbD_zero _ _)
      | succ k =>
        rw [Nat.add_sub_add_right, hlow k (by omega), hsucc, hindex]
        rfl
    · rw [show n + 1 + 1 + i = n + 1 + (i + 1) by omega, hhigh (i + 1) (by omega)]
      exact accWith_getLsbD_succ _ _ (by omega)

theorem mdecAll_decodes {s : State} (hcount : s.mdecCount.toNat < 256)
    (hsamples : ∀ k, k < 256 → ∃ one, hasSample s (s.burstOffset.toNat + 2 * k) one) :
    ∃ acc, mdecAll s = .done (packetDecoded acc s) ∧
      ∀ k, s.mdecCount.toNat ≤ k → k < 256 → acc.getLsbD (255 - k) = sampleAt s (s.burstOffset.toNat + 2 * k) := by
  obtain ⟨n, hn⟩ : ∃ n, 256 - s.mdecCount.toNat = n + 1 := ⟨255 - s.mdecCount.toNat, by omega⟩
  obtain ⟨acc, hloop, hlow, -⟩ := mdecLoop_decodes n s (by omega) fun k hk => hsamples _ (by omega)
  refine ⟨acc, by rw [mdecAll, pktBits, hn, hloop], fun k hlo hhi => ?_⟩
  have hbit := hlow (k - s.mdecCount.toNat) (by omega)
  rwa [show n - (k - s.mdecCount.toNat) = 255 - k by omega,
    show s.mdecCount.toNat + (k - s.mdecCount.toNat) = k by omega] at hbit

/-- Settles O31. -/
theorem mdecRunDecodesEveryOtherSample : Obligations.MdecRunDecodesEveryOtherSample := by
  intro s hstate hcount hsamples
  have hzero : s.mdecCount.toNat = 0 := by rw [hcount]; rfl
  obtain ⟨acc, hres, hbits⟩ := mdecAll_decodes (s := s) (by omega) hsamples
  refine ⟨(packetDecoded acc s).withOutcome .ok 0, ?_, fun k hk => hbits k (by omega) hk, rfl⟩
  rw [exec_mdecRun_of_ready hstate (by omega), hres, conclude_done]

/-- The decoder's samples of an accepted burst lie before SCAN_POS, so the scan has read them (43_burst_locator.md R173). -/
theorem hasSample_of_accepted {s : State} (h : LocatorInv s) (hstate : s.status.scanState = .accepted) {k : Nat}
    (hk : k < 256) : ∃ one, hasSample s (s.burstOffset.toNat + 2 * k) one := by
  obtain ⟨-, hmin, -, -, -, hoffset, hend⟩ := h.accepted hstate
  have hbefore : s.burstOffset.toNat + 2 * k < s.scanPos.toNat := by omega
  obtain ⟨b, hb⟩ := Option.ne_none_iff_exists'.mp (h.readBefore _ hbefore)
  exact ⟨sample b, hbefore.trans_le h.scanPos, b, hb, rfl⟩

/-- Settles O32: the samples have all been read, so the loop runs to its 256th bit. -/
theorem mdecRunAlwaysCompletes : Obligations.MdecRunAlwaysCompletes := by
  intro s hinv hstate hne
  have hcount := hinv.decoder.count
  have hne' := mt (mdecCount_eq_256_iff s).mpr hne
  obtain ⟨acc, hres, -⟩ := mdecAll_decodes (by omega) fun k hk => hasSample_of_accepted hinv.locator hstate hk
  refine ⟨(packetDecoded acc s).withOutcome .ok 0, ?_, rfl, rfl, rfl, rfl⟩
  rw [exec_mdecRun_of_ready hstate hne', hres, conclude_done]

/-! ### LOCATE -/

/-- The scan that SCAN_INIT begins over a capture that is long enough (43_burst_locator.md R166). -/
def scanBegun (s : State) : State :=
  { scanCleared s with status := { (scanCleared s).status with scanState := .idle } }

theorem startScan_of_long {s : State} (h : 512 ≤ s.capLen.toNat) : startScan s = .done (scanBegun s) := by
  rcases startScan_cases s with ⟨hshort, _⟩ | ⟨_, hres⟩
  · omega
  · exact hres

theorem locatorInv_scanBegun (s : State) : LocatorInv (scanBegun s) :=
  locatorInv_of_idle (readBefore_of_scanPos_zero rfl) rfl ⟨rfl, rfl, rfl, rfl⟩

theorem exec_locate_of_long {s : State} (h : 512 ≤ s.capLen.toNat) :
    exec .locate s = conclude ((scanAll (scanBegun s)).andThen mdecAll) := by
  rw [exec_eq_conclude, commandResult, startScan_of_long h, andThen_done]

/-- Settles O33: where a part completed, the next one starts from its state with the outcome cleared, which no command
reads. -/
theorem locateIsItsThreeParts : Obligations.LocateIsItsThreeParts := by
  intro s a hinit
  rw [exec_eq_conclude, commandResult] at hinit
  rcases startScan_cases s with ⟨_, hres⟩ | ⟨hlong, hres⟩
  · have hlocate : exec .locate s = conclude (startScan s) := by
      rw [exec_eq_conclude, commandResult, hres, andThen_raised, andThen_raised]
    rw [hlocate, hinit]
    rw [hres] at hinit
    cases hinit
    exact ⟨fun _ => rfl, fun herr => nomatch herr⟩
  · rw [hres] at hinit
    cases hinit
    refine ⟨fun herr => absurd rfl herr, fun _ => ?_⟩
    have hscan : (scanBegun s).status.scanState.scanning = true := rfl
    have hrun : exec .scanRun ((scanBegun s).withOutcome .ok 0) = conclude (scanAll (scanBegun s)) := by
      rw [exec_withOutcome, exec_scanRun_of_scanning hscan]
    have hend := scanAll_end hscan
    change (∀ f, exec .scanRun ((scanBegun s).withOutcome .ok 0) = .fault f → _) ∧
      ∀ b, exec .scanRun ((scanBegun s).withOutcome .ok 0) = .next b → _
    rw [hrun, exec_locate_of_long hlong]
    revert hend
    generalize scanAll (scanBegun s) = r
    rintro (⟨v, ⟨hacc, -, -, -, hcount, -⟩, -, -⟩ | ⟨info, v, -, -, -, -⟩ | f)
    · refine ⟨fun f hf => (nomatch hf), fun b hb => ?_⟩
      cases hb
      refine ⟨fun herr => absurd rfl herr, fun _ => ?_⟩
      rw [exec_withOutcome, exec_mdecRun_of_ready hacc (by rw [hcount]; decide), andThen_done]
    · refine ⟨fun f hf => (nomatch hf), fun b hb => ?_⟩
      cases hb
      exact ⟨fun _ => rfl, fun herr => nomatch herr⟩
    · refine ⟨fun f' hf => hf, fun b hb => nomatch hb⟩

/-- The decoder completes on the burst that a scan from SCAN_INIT accepted. -/
theorem mdecAll_of_accepted {s : State} (h : LocatorInv s) (hacc : AcceptedHere s) :
    ∃ acc, mdecAll s = .done (packetDecoded acc s) ∧
      ∀ k, k < 256 → acc.getLsbD (255 - k) = sampleAt s (s.burstOffset.toNat + 2 * k) := by
  obtain ⟨hstate, -, -, -, hcount, -⟩ := hacc
  have hzero : s.mdecCount.toNat = 0 := by rw [hcount]; rfl
  obtain ⟨acc, hres, hbits⟩ := mdecAll_decodes (by omega) fun k hk => hasSample_of_accepted h hstate hk
  exact ⟨acc, hres, fun k hk => hbits k (by omega) hk⟩

/-- Settles O34: a scan from index 0 keeps the locator's part of the invariant, so what it accepts decodes. -/
theorem locateFindsAPacketOrNone : Obligations.LocateFindsAPacketOrNone := by
  intro s hlong hread
  have hstop := scanAll_not_faulted (s := scanBegun s) hread
  have hlocator := scanAll_keeps_locatorInv (locatorInv_scanBegun s)
  have hkeeps := scanAll_keeps (scanBegun s)
  have hend := scanAll_end (s := scanBegun s) rfl
  rw [exec_locate_of_long hlong]
  revert hstop hlocator hkeeps hend
  generalize scanAll (scanBegun s) = r
  rintro hstop hlocator hkeeps (⟨v, hacc, -, -⟩ | ⟨info, v, -, hlost, -, -⟩ | f)
  · have hkeeps : ScanKeeps (scanBegun s) v := by simpa using hkeeps
    obtain ⟨acc, hres, hbits⟩ := mdecAll_of_accepted (by simpa using hlocator) hacc
    rw [andThen_done, hres]
    refine ⟨_, rfl, .inl ⟨rfl, rfl, hacc.1, rfl, rfl, fun k hk => ?_⟩, rfl, rfl⟩
    exact (hbits k hk).trans (sampleAt_congr hkeeps.cap _)
  · have hkeeps : ScanKeeps (scanBegun s) v := by simpa using hkeeps
    have hstatus := hkeeps.status
    exact ⟨_, rfl, .inr ⟨rfl, hlost, congrArg Status.pktValid hstatus, hkeeps.packet⟩,
      congrArg Status.fieldsValid hstatus, congrArg Status.crcValid hstatus⟩
  · exact absurd rfl (hstop f)

end Sys2Proof.Machine

/-! PROOFS. When the machine stops, and that every command completes on a written capture (spec/20_memory.md R61, R72,
spec/43_burst_locator.md R173, spec/70_reset_and_hazards.md R298). -/

namespace Sys2Proof.Machine

/-! ### Results that do not stop -/

/-- The pseudocode does not stop the machine. -/
def CmdResult.Completes (r : CmdResult) : Prop := ∀ f, r ≠ .faulted f

theorem completes_done (s : State) : (CmdResult.done s).Completes := fun _ h => nomatch h
theorem completes_reported (e : Err) (info : Word32) (s : State) : (CmdResult.reported e info s).Completes :=
  fun _ h => nomatch h
theorem completes_raised (e : Err) (info : Word32) (s : State) : (CmdResult.raised e info s).Completes :=
  fun _ h => nomatch h

/-- The parts of a compound command stop only where one of them does. -/
theorem faulted_of_andThen {r : CmdResult} {k : State → CmdResult} {f : Fault} (h : r.andThen k = .faulted f) :
    r = .faulted f ∨ ∃ s, (r = .done s ∨ ∃ e info, r = .reported e info s) ∧ k s = .faulted f := by
  cases r with
  | done s => exact .inr ⟨s, .inl rfl, h⟩
  | raised e info s => cases h
  | faulted f' => exact .inl h
  | reported e info s =>
    refine .inr ⟨s, .inr ⟨e, info, rfl⟩, ?_⟩
    simp only [CmdResult.andThen] at h
    cases hk : k s with
    | done t => rw [hk] at h; cases h
    | _ => rw [hk] at h; exact h

theorem CmdResult.Completes.andThen {r : CmdResult} {k : State → CmdResult} (hr : r.Completes)
    (hk : ∀ s, (k s).Completes) : (r.andThen k).Completes := by
  intro f h
  rcases faulted_of_andThen h with h | ⟨s, -, h⟩
  · exact hr f h
  · exact hk s f h

theorem needPacket_completes {s : State} {body : State → CmdResult} (h : (body s).Completes) :
    (needPacket s body).Completes := by
  unfold needPacket
  split
  · exact h
  · exact completes_raised _ _ _

theorem verifyPacket_completes (s : State) : (verifyPacket s).Completes := by
  rcases verifyPacket_cases s with ⟨_, hres⟩ | ⟨_, hres⟩ <;> rw [hres]
  · exact completes_done _
  · exact completes_reported _ _ _

theorem applyResolve_completes (a : Nat) (s : State) : (applyResolve a s).Completes := by
  rcases applyResolve_cases a s with ⟨_, _, _, _, hres⟩ | ⟨_, _, _, hres⟩ | ⟨_, hres⟩ <;> rw [hres]
  · exact completes_raised _ _ _
  · exact completes_done _
  · exact completes_done _

theorem encodeBody_completes (s : State) : (encodeBody s).Completes := by
  rcases encodeBody_cases s with ⟨_, hres⟩ | ⟨_, _, hres⟩ | ⟨_, _, ⟨_, _, hres⟩ | ⟨_, _, hres⟩⟩ <;> rw [hres]
  · exact completes_raised _ _ _
  · exact completes_raised _ _ _
  · exact completes_raised _ _ _
  · exact completes_done _

theorem startScan_completes (s : State) : (startScan s).Completes := by
  rcases startScan_cases s with ⟨_, hres⟩ | ⟨_, hres⟩ <;> rw [hres]
  · exact completes_raised _ _ _
  · exact completes_done _

/-! ### Where a command stops -/

/-- A sample below CAP_LEN, inside CAP, that nothing has written (20_memory.md R72). -/
def UnwrittenSample (s : State) (f : Fault) : Prop :=
  ∃ i, f = .capByteUnwritten i ∧ i < s.capLen.toNat ∧ i < s.capSize.bytes ∧ Memory.read s.cap i = none

/-- CAP_LEN is at most CAP_SIZE, so a scan reads inside CAP. -/
theorem unwrittenSample_of_capRead {s : State} (h : CaptureInv s) {i : Nat} (hi : i < s.capLen.toNat) {f : Fault}
    (herr : capRead s i = .error f) : UnwrittenSample s f := by
  have hlen := h.capLen
  rcases (capRead_error_iff s i f).mp herr with ⟨hin, hnone, hf⟩ | ⟨hout, _⟩
  · exact ⟨i, hf, hi, hin, hnone⟩
  · omega

theorem scanLoop_stops {s : State} (h : CaptureInv s) {n : Nat} {f : Fault} (hf : scanLoop n s = .faulted f) :
    UnwrittenSample s f := by
  obtain ⟨i, -, hi, herr⟩ := scanLoop_faulted n s f hf
  exact unwrittenSample_of_capRead h hi herr

theorem scanOnce_stops {s : State} (h : CaptureInv s) (hscan : s.status.scanState.scanning = true) {f : Fault}
    (hf : scanOnce s = .faulted f) : UnwrittenSample s f :=
  scanLoop_stops h (n := 1) ((scanLoop_succ_of_not_done hscan (by simp [hf]) 0).trans hf)

/-- The decoder reads only what the scan has read. -/
theorem mdecOnce_completes {s : State} (h : BodyInv s) (hstate : s.status.scanState = .accepted)
    (hcount : s.mdecCount.toNat ≠ 256) : (mdecOnce s).Completes := by
  obtain ⟨one, hone⟩ := hasSample_of_accepted h.locator hstate (lt_of_le_of_ne h.decoder.count hcount)
  rw [mdecOnce_of_hasSample hone]
  exact completes_done _

theorem mdecAll_completes {s : State} (h : BodyInv s) (hstate : s.status.scanState = .accepted)
    (hcount : s.mdecCount.toNat ≠ 256) : (mdecAll s).Completes := by
  obtain ⟨acc, hres, -⟩ := mdecAll_decodes (s := s) (lt_of_le_of_ne h.decoder.count hcount) fun k hk =>
    hasSample_of_accepted h.locator hstate hk
  rw [hres]
  exact completes_done _

theorem needScanning_stops {s : State} {body : State → CmdResult} {f : Fault} (h : needScanning s body = .faulted f) :
    s.status.scanState.scanning = true ∧ body s = .faulted f := by
  unfold needScanning at h
  split at h
  · next hscan => exact ⟨hscan, h⟩
  · cases h

theorem needDecoding_completes {s : State} {body : State → CmdResult}
    (h : s.status.scanState = .accepted → s.mdecCount.toNat ≠ 256 → (body s).Completes) :
    (needDecoding s body).Completes := by
  unfold needDecoding
  split_ifs with hstate hcount
  · exact completes_raised _ _ _
  · exact completes_raised _ _ _
  · exact h (not_not.mp hstate) hcount

/-- LOCATE decodes only after a scan that accepted, whose samples have all been read. -/
theorem locate_stops {s : State} (h : BodyInv s) {f : Fault} (hf : commandResult .locate s = .faulted f) :
    UnwrittenSample s f := by
  rw [commandResult] at hf
  rcases startScan_cases s with ⟨_, hres⟩ | ⟨hlong, _⟩
  · rw [hres] at hf; cases hf
  rw [startScan_of_long hlong, andThen_done] at hf
  have hbody : BodyInv (scanBegun s) := by
    simpa [startScan_of_long hlong] using startScan_keeps_bodyInv h.capture h.layout
  rcases faulted_of_andThen hf with hscan | ⟨v, hv, hdec⟩
  · exact scanLoop_stops hbody.capture hscan
  · have hend := scanAll_end (s := scanBegun s) rfl
    have hvbody := scanAll_keeps_bodyInv hbody
    rcases hv with hv | ⟨e, info, hv⟩ <;> rw [hv] at hend hvbody <;> cases hend
    next hacc _ _ =>
      obtain ⟨hstate, -, -, -, hcount, -⟩ := hacc
      exact absurd hdec (mdecAll_completes (by simpa using hvbody) hstate (by rw [hcount]; decide) f)

/-- The commands that scan (43_burst_locator.md R167, R168, R172). -/
def scanners : List Instr := [.scanStep, .scanRun, .locate]

theorem commandResult_stops {i : Instr} {s : State} (h : BodyInv s) {f : Fault}
    (hf : commandResult i s = .faulted f) : UnwrittenSample s f ∧ i ∈ scanners := by
  have never (hc : (commandResult i s).Completes) : UnwrittenSample s f ∧ i ∈ scanners := absurd hf (hc f)
  cases i with
  | scanStep =>
    obtain ⟨hscan, hf⟩ := needScanning_stops hf
    exact ⟨scanOnce_stops h.capture hscan hf, by decide⟩
  | scanRun => exact ⟨scanLoop_stops h.capture (needScanning_stops hf).2, by decide⟩
  | locate => exact ⟨locate_stops h hf, by decide⟩
  | slice | crcCompute =>
    refine never ?_
    rw [commandResult]
    exact needPacket_completes (completes_done _)
  | push width =>
    refine never ?_
    rw [commandResult]
    split
    · exact completes_done _
    · exact completes_raised _ _ _
  | crcVerify => exact never (needPacket_completes (verifyPacket_completes s))
  | scanInit => exact never (startScan_completes s)
  | mdecStep => exact never (needDecoding_completes (mdecOnce_completes h))
  | mdecRun => exact never (needDecoding_completes (mdecAll_completes h))
  | resolve => exact never (applyResolve_completes _ s)
  | resolvePkt =>
    refine never ?_
    rw [commandResult]
    exact needPacket_completes (applyResolve_completes _ s)
  | decode =>
    refine never ?_
    rw [commandResult]
    split
    · exact completes_raised _ _ _
    · exact verifyPacket_completes _
  | encode => exact never (encodeBody_completes s)
  | dissect =>
    refine never ?_
    rw [commandResult]
    exact needPacket_completes ((applyResolve_completes _ s).andThen fun t => verifyPacket_completes (recordWritten t))
  | craft => exact never ((applyResolve_completes _ s).andThen encodeBody_completes)
  | _ => exact never (completes_done _)

theorem exec_stops {i : Instr} {s : State} (h : BodyInv s) {f : Fault} (hf : exec i s = .fault f) :
    UnwrittenSample s f ∧ i ∈ scanners :=
  commandResult_stops h ((conclude_fault_iff _ _).mp (exec_eq_conclude i s ▸ hf))

/-- Settles O54: no command refuses, and a stop would name an unwritten sample. -/
theorem everyCommandCompletesOnAWrittenCapture : Obligations.EveryCommandCompletesOnAWrittenCapture := by
  intro i s hinv hwritten
  cases hres : exec i s with
  | next t => exact ⟨t, rfl⟩
  | fault f =>
    obtain ⟨⟨a, -, ha, -, hnone⟩, -⟩ := exec_stops hinv.body hres
    exact absurd hnone (hwritten a ha)
  | refused x => exact absurd hres (exec_not_refused i s x)

/-! ### Where the machine stops -/

theorem runWord_not_refused (w : Word32) (s : State) (x : Refusal) : runWord w s ≠ .refused x := by
  unfold runWord
  split
  · exact exec_not_refused _ s x
  · exact conclude_not_refused _ x

theorem hostWriteReg_not_refused (index : BitVec 6) (v : Word256) (s : State) (x : Refusal) :
    hostWriteReg index v s ≠ .refused x := by
  unfold hostWriteReg
  split
  · exact runWord_not_refused _ _ x
  · exact fun h => nomatch h
  · exact fun h => nomatch h

theorem step_not_refused (s : State) (x : Refusal) : step s ≠ .refused x := by
  cases hhost : s.host with
  | nil => rw [step_of_no_access hhost]; exact fun h => nomatch h
  | cons a rest =>
    rw [step_of_access hhost]
    cases a with
    | writeReg index v => exact hostWriteReg_not_refused index v _ x
    | _ => exact fun h => nomatch h

/-- Only a CMD write whose word is a command can stop the machine. -/
theorem step_fault {s : State} {f : Fault} (h : step s = .fault f) :
    ∃ c rest i, s.host = .writeReg 0x00 c :: rest ∧ decode (c.setWidth 32) = .ok i ∧
      exec i { s with host := rest, cmd := c.setWidth 32 } = .fault f := by
  cases hhost : s.host with
  | nil => rw [step_of_no_access hhost] at h; cases h
  | cons a rest =>
    cases a with
    | writeReg index c =>
      by_cases hcmd : regAt index = some .cmd
      · obtain rfl : index = 0x00 := BitVec.eq_of_toNat_eq ((regAt_eq_some_iff index .cmd).mp hcmd).symm
        rw [step_of_cmd_write hhost] at h
        cases hdec : decode (cmdWord c) with
        | ok i => exact ⟨c, rest, i, rfl, hdec, runWord_of_legal hdec _ ▸ h⟩
        | error why => rw [runWord_of_illegal hdec] at h; cases h
      · rw [step_of_access hhost] at h
        cases (hostWriteReg_eq_writeByIndex hcmd c _).symm.trans h
    | _ => rw [step_of_access hhost] at h; cases h

/-- Settles O53. -/
theorem onlyAnUnwrittenSampleStopsTheMachine : Obligations.OnlyAnUnwrittenSampleStopsTheMachine := by
  intro s hinv
  refine ⟨step_not_refused s, fun f hf => ?_⟩
  obtain ⟨c, rest, i, hhost, hdec, hexec⟩ := step_fault hf
  have hlatched : BodyInv { s with host := rest, cmd := c.setWidth 32 } := hinv.body.congr rfl rfl rfl rfl rfl
  obtain ⟨⟨a, rfl, hlen, hsize, hnone⟩, hi⟩ := exec_stops hlatched hexec
  refine ⟨a, rfl, hlen, hsize, hnone, c, rest, hhost, ?_⟩
  rw [hdec]
  simpa [scanners] using hi

end Sys2Proof.Machine

/-! PROOFS. Every command's frame: the registers, flags and memories it leaves alone (spec/10_state.md R22 to R27, R37,
spec/40_control.md R110, spec/20_memory.md R61). -/

namespace Sys2Proof.Machine

/-! ### Registers -/

/-- What lies outside the register file. -/
def outsideView (s : State) : Memory × Vector Byte 32 × CapSize × List HostAccess × Word256 × Nat :=
  (s.cap, s.wireIn, s.capSize, s.host, s.readData, s.powerCycles)

/-- Only the listed registers differ. -/
def Frame (l : List RegName) (s t : State) : Prop :=
  (∀ r, r ∉ l → regValue t r = regValue s r) ∧ outsideView t = outsideView s

theorem Frame.refl (l : List RegName) (s : State) : Frame l s s := ⟨fun _ _ => rfl, rfl⟩

theorem Frame.trans {l : List RegName} {s t u : State} (hst : Frame l s t) (htu : Frame l t u) : Frame l s u :=
  ⟨fun r hr => (htu.1 r hr).trans (hst.1 r hr), htu.2.trans hst.2⟩

theorem Frame.mono {l l' : List RegName} {s t : State} (h : Frame l s t) (hl : l ⊆ l') : Frame l' s t :=
  ⟨fun r hr => h.1 r fun hmem => hr (hl hmem), h.2⟩

/-- A frame read off register by register. -/
theorem frame_of_ite {l : List RegName} {s t : State}
    (hregs : ∀ r, regValue t r = if r ∈ l then regValue t r else regValue s r) (hout : outsideView t = outsideView s) :
    Frame l s t :=
  ⟨fun r hr => (hregs r).trans (if_neg hr), hout⟩

theorem frame_withOutcome (s : State) (e : Err) (info : Word32) : Frame [.err, .errInfo] s (s.withOutcome e info) :=
  frame_of_ite (fun r => by cases r <;> rfl) rfl

theorem frame_writePacket (v : Word256) (s : State) : Frame [.packet, .status] s (writePacket v s) :=
  frame_of_ite (fun r => by cases r <;> rfl) rfl

theorem frame_verified (s : State) : Frame verifyRegs s (verified s) :=
  frame_of_ite (fun r => by cases r <;> rfl) rfl

theorem frame_recordWritten (s : State) : Frame (.status :: fieldRegs) s (recordWritten s) :=
  frame_of_ite (fun r => by cases r <;> rfl) rfl

theorem frame_writeLayout (v k : Bool) (d a p : Nat) (s : State) : Frame layoutRegs s (writeLayout v k d a p s) :=
  frame_of_ite (fun r => by cases r <;> rfl) rfl

theorem frame_softReset (s : State) : Frame (mayWrite .softReset) s (softResetState s) :=
  frame_of_ite (fun r => by cases r <;> rfl) rfl

theorem frame_bitShifted (one : Bool) (s : State) : Frame [.mdecCount, .mdecAcc] s (bitShifted one s) :=
  frame_of_ite (fun r => by cases r <;> rfl) rfl

theorem frame_scanBegun (x : ScanState) (s : State) :
    Frame scanRegs s { scanCleared s with status := { (scanCleared s).status with scanState := x } } :=
  frame_of_ite (fun r => by cases r <;> rfl) rfl

theorem ScanKeeps.frame {s t : State} (h : ScanKeeps s t) : Frame scanRegs s t := by
  unfold ScanKeeps at h
  rw [h]
  exact frame_of_ite (fun r => by cases r <;> rfl) rfl

/-! ### The parts of the commands -/

theorem verifyPacket_frame (s : State) : (verifyPacket s).Ends (Frame verifyRegs s) := by
  rcases verifyPacket_cases s with ⟨_, hres⟩ | ⟨_, hres⟩ <;> rw [hres] <;> simpa using frame_verified s

theorem decodeBody_frame (s : State) : (decodeBody s).Ends (Frame (fieldRegs ++ verifyRegs) s) :=
  ends_mono (verifyPacket_frame (recordWritten s)) fun _ ht =>
    ((frame_recordWritten s).mono (by decide)).trans (ht.mono (by decide))

theorem applyResolve_frame (a : Nat) (s : State) : (applyResolve a s).Ends (Frame layoutRegs s) := by
  rcases applyResolve_cases a s with ⟨d, _, _, _, hres⟩ | ⟨d, _, _, hres⟩ | ⟨_, hres⟩ <;> rw [hres] <;>
    simpa using frame_writeLayout _ _ _ _ _ s

theorem encodeBody_frame (s : State) : (encodeBody s).Ends (Frame [.packet, .status] s) := by
  rcases encodeBody_cases s with ⟨_, hres⟩ | ⟨_, _, hres⟩ | ⟨_, _, ⟨_, _, hres⟩ | ⟨v, _, hres⟩⟩ <;> rw [hres]
  · simpa using Frame.refl _ s
  · simpa using Frame.refl _ s
  · simpa using Frame.refl _ s
  · simpa using frame_writePacket v s

theorem startScan_frame (s : State) : (startScan s).Ends (Frame scanRegs s) := by
  rcases startScan_cases s with ⟨_, hres⟩ | ⟨_, hres⟩ <;> rw [hres] <;> simpa using frame_scanBegun _ s

theorem scanAll_frame (s : State) : (scanAll s).Ends (Frame scanRegs s) :=
  ends_mono (scanAll_keeps s) fun _ ht => ht.frame

/-- The registers of the bit decoder (43_burst_locator.md R169). -/
def decoderRegs : List RegName := [.mdecCount, .mdecAcc, .packet, .status]

theorem frame_bitTaken (one : Bool) (s : State) : Frame decoderRegs s (bitTaken one s) := by
  have hshifted : Frame decoderRegs s (bitShifted one s) := (frame_bitShifted one s).mono (by decide)
  by_cases hlast : s.mdecCount.toNat + 1 = 256
  · rw [bitTaken_of_last hlast]
    exact hshifted.trans ((frame_writePacket _ _).mono (by decide))
  · rwa [bitTaken_of_not_last hlast]

theorem mdecOnce_frame (s : State) : (mdecOnce s).Ends (Frame decoderRegs s) := by
  rcases mdecOnce_cases s with ⟨f, _, hres⟩ | ⟨b, _, hres⟩ <;> rw [hres]
  · simp
  · simpa using frame_bitTaken _ s

theorem mdecAll_frame (s : State) : (mdecAll s).Ends (Frame decoderRegs s) :=
  mdecLoop_ends (P := Frame decoderRegs s) (fun t ht _ => ends_mono (mdecOnce_frame t) fun _ hu => ht.trans hu) _ s
    (.refl _ s)

theorem commandResult_frame (i : Instr) (s : State) : (commandResult i s).Ends (Frame (mayWrite i) s) := by
  have hrefl : Frame (mayWrite i) s s := .refl _ s
  cases i with
  | nop => simpa [commandResult] using hrefl
  | softReset => simpa [commandResult] using frame_softReset s
  | loadShort => exact (ends_done _ _).mpr (frame_writePacket _ s)
  | slice | crcCompute =>
    rw [commandResult]
    refine needPacket_ends hrefl fun _ => (ends_done _ _).mpr ?_
    exact frame_of_ite (fun r => by cases r <;> rfl) rfl
  | pushClear | crcClear | crcByte =>
    rw [commandResult, ends_done]
    exact frame_of_ite (fun r => by cases r <;> rfl) rfl
  | push width =>
    rw [commandResult]
    split
    · exact (ends_done _ _).mpr (frame_of_ite (fun r => by cases r <;> rfl) rfl)
    · exact (ends_raised _ _ _ _).mpr hrefl
  | crcVerify => exact needPacket_ends hrefl fun _ => verifyPacket_frame s
  | scanInit => exact startScan_frame s
  | scanStep => exact needScanning_ends hrefl fun hscan => ends_mono (scanOnce_move hscan).keeps fun _ ht => ht.frame
  | scanRun => exact needScanning_ends hrefl fun _ => scanAll_frame s
  | mdecStep => exact needDecoding_ends hrefl fun _ _ => mdecOnce_frame s
  | mdecRun => exact needDecoding_ends hrefl fun _ _ => mdecAll_frame s
  | locate =>
    have hscan : ((startScan s).andThen scanAll).Ends (Frame scanRegs s) :=
      ends_andThen (startScan_frame s) (fun _ ht => ht) fun t ht => ends_mono (scanAll_frame t) fun _ hu => ht.trans hu
    exact ends_andThen hscan (fun _ ht => ht.mono (by decide)) fun t ht =>
      ends_mono (mdecAll_frame t) fun _ hu => (ht.mono (by decide)).trans (hu.mono (by decide))
  | resolve => exact applyResolve_frame _ s
  | resolvePkt =>
    rw [commandResult]
    exact needPacket_ends hrefl fun _ => applyResolve_frame _ s
  | decode =>
    rw [commandResult]
    split
    · exact (ends_raised _ _ _ _).mpr hrefl
    · exact decodeBody_frame s
  | encode => exact encodeBody_frame s
  | dissect =>
    rw [commandResult]
    exact needPacket_ends hrefl fun _ => ends_andThen (applyResolve_frame _ s) (fun _ ht => ht.mono (by decide))
      fun t ht => ends_mono (decodeBody_frame t) fun _ hu => (ht.mono (by decide)).trans (hu.mono (by decide))
  | craft =>
    exact ends_andThen (applyResolve_frame _ s) (fun _ ht => ht.mono (by decide))
      fun t ht => ends_mono (encodeBody_frame t) fun _ hu => (ht.mono (by decide)).trans (hu.mono (by decide))

theorem exec_frame {i : Instr} {s t : State} (ht : exec i s = .next t) :
    (∀ r, r ∉ mayWrite i → r ≠ .err → r ≠ .errInfo → regValue t r = regValue s r) ∧ outsideView t = outsideView s := by
  obtain ⟨u, e, info, rfl, hregs, hout⟩ := exec_next_of_ends (commandResult_frame i s) ht
  obtain ⟨houtcome, hout'⟩ := frame_withOutcome u e info
  exact ⟨fun r hr herr hinfo => (houtcome r (by simp [herr, hinfo])).trans (hregs r hr), hout'.trans hout⟩

/-- Settles O45: the frame of each command's parts, and the shared end, which writes the outcome alone. -/
theorem commandsWriteOnlyTheirRegisters : Obligations.CommandsWriteOnlyTheirRegisters := by
  intro i s t ht
  obtain ⟨hregs, hout⟩ := exec_frame ht
  simp only [outsideView, Prod.mk.injEq] at hout
  obtain ⟨hcap, hwire, hsize, hhost, hdata, hcycles⟩ := hout
  exact ⟨hregs, fun a => by rw [hcap], hcap, hwire, hsize, hhost, hdata, hcycles⟩

/-! ### PACKET -/

/-- PACKET stays, or a packet write has happened and its flags still stand (10_state.md R27). -/
def PacketKept (s t : State) : Prop :=
  t.packet = s.packet ∨ t.status.pktValid = true ∧ t.status.fieldsValid = false ∧ t.status.fieldsSplit = false ∧
    t.status.crcValid = false ∧ t.status.crcMatch = false

theorem packetKept_writePacket (v : Word256) (s t : State) : PacketKept s (writePacket v t) :=
  .inr ⟨rfl, rfl, rfl, rfl, rfl⟩

theorem PacketKept.bitTaken {s t : State} (h : PacketKept s t) (one : Bool) : PacketKept s (bitTaken one t) := by
  by_cases hlast : t.mdecCount.toNat + 1 = 256
  · rw [bitTaken_of_last hlast]
    exact packetKept_writePacket _ s _
  · rw [bitTaken_of_not_last hlast]
    exact h

theorem PacketKept.mdecOnce {s t : State} (h : PacketKept s t) : (mdecOnce t).Ends (PacketKept s) := by
  rcases mdecOnce_cases t with ⟨f, _, hres⟩ | ⟨b, _, hres⟩ <;> rw [hres]
  · simp
  · simpa using h.bitTaken (sample b)

theorem PacketKept.mdecAll {s t : State} (h : PacketKept s t) : (mdecAll t).Ends (PacketKept s) :=
  mdecLoop_ends (fun _ hu _ => hu.mdecOnce) _ t h

theorem PacketKept.encodeBody {s t : State} (h : PacketKept s t) : (encodeBody t).Ends (PacketKept s) := by
  rcases encodeBody_cases t with ⟨_, hres⟩ | ⟨_, _, hres⟩ | ⟨_, _, ⟨_, _, hres⟩ | ⟨v, _, hres⟩⟩ <;> rw [hres]
  · simpa using h
  · simpa using h
  · simpa using h
  · simpa using packetKept_writePacket v s t

theorem Frame.packetKept {l : List RegName} {s t : State} (h : Frame l s t) (hl : .packet ∉ l) : PacketKept s t :=
  .inl (h.1 .packet hl)

theorem packetWriter_of_mayWrite {i : Instr} (h : .packet ∈ mayWrite i) (hreset : i ≠ .softReset) :
    i ∈ packetWriters := by
  cases i with
  | softReset => exact absurd rfl hreset
  | loadShort | mdecStep | mdecRun | locate | encode | craft => decide
  | _ => simp [mayWrite, verifyRegs, scanRegs, layoutRegs, fieldRegs] at h

theorem commandResult_packetKept {i : Instr} (hi : i ∈ packetWriters) (s : State) :
    (commandResult i s).Ends (PacketKept s) := by
  have hrefl : PacketKept s s := .inl rfl
  simp only [packetWriters, List.mem_cons, List.not_mem_nil, or_false] at hi
  rcases hi with rfl | rfl | rfl | rfl | rfl | rfl
  · simpa [commandResult] using packetKept_writePacket _ s s
  · exact needDecoding_ends hrefl fun _ _ => hrefl.mdecOnce
  · exact needDecoding_ends hrefl fun _ _ => hrefl.mdecAll
  · have hscan : ((startScan s).andThen scanAll).Ends (Frame scanRegs s) :=
      ends_andThen (startScan_frame s) (fun _ ht => ht) fun t ht => ends_mono (scanAll_frame t) fun _ hu => ht.trans hu
    exact ends_andThen (ends_mono hscan fun _ ht => ht.packetKept (by decide)) (fun _ ht => ht) fun _ ht => ht.mdecAll
  · exact hrefl.encodeBody
  · exact ends_andThen (ends_mono (applyResolve_frame _ s) fun _ ht => ht.packetKept (by decide)) (fun _ ht => ht)
      fun _ ht => ht.encodeBody

/-- Settles O47: a command whose frame holds PACKET is one of R27's, and they change it by packet writes only. -/
theorem packetChangesOnlyByWritePacket : Obligations.PacketChangesOnlyByWritePacket := by
  intro i s t ht hne
  by_cases hreset : i = .softReset
  · exact .inl hreset
  have hmem : .packet ∈ mayWrite i := by
    by_contra hmem
    exact hne ((exec_frame ht).1 .packet hmem (by decide) (by decide))
  have hi := packetWriter_of_mayWrite hmem hreset
  obtain ⟨u, e, info, rfl, hkept⟩ := exec_next_of_ends (commandResult_packetKept hi s) ht
  exact .inr ⟨hi, hkept.resolve_left hne⟩

/-! ### STATUS -/

/-- Command `i` may have run between the two states: a flag changed only as R23 lists it for `i`, SCAN_STATE only as
R24 does. -/
structure FlagsMove (i : Instr) (s t : State) : Prop where
  rise : ∀ f, s.status.flag f = false → t.status.flag f = true → i ∈ flagSetters f
  fall : ∀ f, s.status.flag f = true → t.status.flag f = false → i ∈ flagClearers f
  scan : t.status.scanState ≠ s.status.scanState → i ∈ scanStateWriters

theorem FlagsMove.of_status {i : Instr} {s t : State} (h : t.status = s.status) : FlagsMove i s t := by
  constructor <;> rw [h]
  · exact fun _ h0 h1 => nomatch h0.symm.trans h1
  · exact fun _ h1 h0 => nomatch h1.symm.trans h0
  · exact fun hne => absurd rfl hne

theorem FlagsMove.trans {i : Instr} {a b c : State} (hab : FlagsMove i a b) (hbc : FlagsMove i b c) :
    FlagsMove i a c where
  rise f ha hc := by
    cases hb : b.status.flag f with
    | true => exact hab.rise f ha hb
    | false => exact hbc.rise f hb hc
  fall f ha hc := by
    cases hb : b.status.flag f with
    | false => exact hab.fall f ha hb
    | true => exact hbc.fall f hb hc
  scan hne := by
    by_cases h : b.status.scanState = a.status.scanState
    · exact hbc.scan fun h' => hne (h'.trans h)
    · exact hab.scan h

theorem flagsMove_writePacket {i : Instr} (hi : i ∈ packetWriters) (v : Word256) (s : State) :
    FlagsMove i s (writePacket v s) where
  rise f h h' := by
    cases f with
    | pktValid => exact hi
    | layoutValid | layoutKnown => nomatch h.symm.trans h'
    | _ => nomatch h'
  fall f h h' := by
    cases f with
    | pktValid => nomatch h'
    | layoutValid | layoutKnown => nomatch h.symm.trans h'
    | _ => simp [flagClearers, hi]
  scan h := absurd rfl h

theorem ScanKeeps.flagsMove {s t : State} (h : ScanKeeps s t) {i : Instr} (hi : i ∈ scanStateWriters) :
    FlagsMove i s t := by
  have hflag (f : Flag) : t.status.flag f = s.status.flag f := by
    rw [h.status]
    cases f <;> rfl
  exact ⟨fun f h0 h1 => (nomatch h0.symm.trans ((hflag f).symm.trans h1)),
    fun f h1 h0 => (nomatch h1.symm.trans ((hflag f).symm.trans h0)), fun _ => hi⟩

theorem flagsMove_scanBegun {i : Instr} (hi : i = .scanInit ∨ i = .locate) (x : ScanState) (s : State) :
    FlagsMove i s { scanCleared s with status := { (scanCleared s).status with scanState := x } } where
  rise f h h' := by
    cases f with
    | layoutValid | layoutKnown => nomatch h.symm.trans h'
    | _ => nomatch h'
  fall f h h' := by
    cases f with
    | layoutValid | layoutKnown => nomatch h.symm.trans h'
    | _ => rcases hi with rfl | rfl <;> decide
  scan _ := by rcases hi with rfl | rfl <;> decide

theorem flagsMove_verified {i : Instr} (hi : i ∈ flagSetters .crcValid) (s : State) :
    FlagsMove i s (verified s) where
  rise f h h' := by
    cases f with
    | crcValid | crcMatch => exact hi
    | _ => nomatch h.symm.trans h'
  fall f h h' := by
    cases f with
    | crcValid => nomatch h'
    | crcMatch => exact List.mem_append_left _ hi
    | _ => nomatch h.symm.trans h'
  scan h := absurd rfl h

theorem flagsMove_recordWritten {i : Instr} (hi : i ∈ flagSetters .fieldsValid) (s : State) :
    FlagsMove i s (recordWritten s) where
  rise f h h' := by
    cases f with
    | fieldsValid | fieldsSplit => exact hi
    | _ => nomatch h.symm.trans h'
  fall f h h' := by
    cases f with
    | fieldsValid => nomatch h'
    | fieldsSplit => exact List.mem_append_left _ hi
    | _ => nomatch h.symm.trans h'
  scan h := absurd rfl h

theorem flagsMove_writeLayout {i : Instr} (hi : i ∈ resolvers) (v k : Bool) (d a p : Nat) (s : State) :
    FlagsMove i s (writeLayout v k d a p s) where
  rise f h h' := by
    cases f with
    | layoutValid | layoutKnown => exact hi
    | _ => nomatch h.symm.trans h'
  fall f h h' := by
    cases f with
    | layoutValid | layoutKnown => exact List.mem_cons_of_mem _ hi
    | _ => nomatch h.symm.trans h'
  scan h := absurd rfl h

theorem flagsMove_softReset (s : State) : FlagsMove .softReset s (softResetState s) where
  rise f _ h' := by cases f <;> nomatch h'
  fall f _ _ := by cases f <;> decide
  scan _ := by decide

theorem flagsMove_bitTaken {i : Instr} (hi : i ∈ packetWriters) (one : Bool) (s : State) :
    FlagsMove i s (bitTaken one s) := by
  by_cases hlast : s.mdecCount.toNat + 1 = 256
  · rw [bitTaken_of_last hlast]
    exact FlagsMove.trans (b := bitShifted one s) (.of_status rfl) (flagsMove_writePacket hi _ _)
  · rw [bitTaken_of_not_last hlast]
    exact .of_status rfl

theorem verifyPacket_flagsMove {i : Instr} (hi : i ∈ flagSetters .crcValid) (s : State) :
    (verifyPacket s).Ends (FlagsMove i s) := by
  rcases verifyPacket_cases s with ⟨_, hres⟩ | ⟨_, hres⟩ <;> rw [hres] <;> simpa using flagsMove_verified hi s

theorem decodeBody_flagsMove {i : Instr} (hi : i ∈ flagSetters .fieldsValid) (s : State) :
    (decodeBody s).Ends (FlagsMove i s) :=
  ends_mono (verifyPacket_flagsMove (List.mem_cons_of_mem _ hi) (recordWritten s)) fun _ ht =>
    (flagsMove_recordWritten hi s).trans ht

theorem applyResolve_flagsMove {i : Instr} (hi : i ∈ resolvers) (a : Nat) (s : State) :
    (applyResolve a s).Ends (FlagsMove i s) := by
  rcases applyResolve_cases a s with ⟨d, _, _, _, hres⟩ | ⟨d, _, _, hres⟩ | ⟨_, hres⟩ <;> rw [hres] <;>
    simpa only [ends_done, ends_raised] using flagsMove_writeLayout hi _ _ _ _ _ s

theorem encodeBody_flagsMove {i : Instr} (hi : i ∈ packetWriters) (s : State) :
    (encodeBody s).Ends (FlagsMove i s) := by
  have hrefl : FlagsMove i s s := .of_status rfl
  rcases encodeBody_cases s with ⟨_, hres⟩ | ⟨_, _, hres⟩ | ⟨_, _, ⟨_, _, hres⟩ | ⟨v, _, hres⟩⟩ <;> rw [hres]
  · simpa only [ends_raised] using hrefl
  · simpa only [ends_raised] using hrefl
  · simpa only [ends_raised] using hrefl
  · simpa only [ends_done] using flagsMove_writePacket hi v s

theorem startScan_flagsMove {i : Instr} (hi : i = .scanInit ∨ i = .locate) (s : State) :
    (startScan s).Ends (FlagsMove i s) := by
  rcases startScan_cases s with ⟨_, hres⟩ | ⟨_, hres⟩ <;> rw [hres] <;>
    simpa only [ends_done, ends_raised] using flagsMove_scanBegun hi _ s

theorem mdecOnce_flagsMove {i : Instr} (hi : i ∈ packetWriters) (s : State) :
    (mdecOnce s).Ends (FlagsMove i s) := by
  rcases mdecOnce_cases s with ⟨f, _, hres⟩ | ⟨b, _, hres⟩ <;> rw [hres]
  · simp only [ends_faulted]
  · simpa only [ends_done] using flagsMove_bitTaken hi _ s

theorem mdecAll_flagsMove {i : Instr} (hi : i ∈ packetWriters) (s : State) :
    (mdecAll s).Ends (FlagsMove i s) :=
  mdecLoop_ends (P := FlagsMove i s)
    (fun t ht _ => ends_mono (mdecOnce_flagsMove hi t) fun _ hu => ht.trans hu) _ s (.of_status rfl)

theorem scanAll_flagsMove {i : Instr} (hi : i ∈ scanStateWriters) (s : State) :
    (scanAll s).Ends (FlagsMove i s) :=
  ends_mono (scanAll_keeps s) fun _ ht => ht.flagsMove hi

theorem commandResult_flagsMove (i : Instr) (s : State) :
    (commandResult i s).Ends (FlagsMove i s) := by
  have hrefl : FlagsMove i s s := .of_status rfl
  cases i with
  | softReset => exact (ends_done _ _).mpr (flagsMove_softReset s)
  | loadShort => exact (ends_done _ _).mpr (flagsMove_writePacket (by decide) _ s)
  | slice | crcCompute =>
    rw [commandResult]
    exact needPacket_ends hrefl fun _ => (ends_done _ _).mpr (.of_status rfl)
  | push width =>
    rw [commandResult]
    split
    · exact (ends_done _ _).mpr (.of_status rfl)
    · exact (ends_raised _ _ _ _).mpr hrefl
  | crcVerify =>
    exact needPacket_ends hrefl fun _ =>
      verifyPacket_flagsMove (by decide) s
  | scanInit => exact startScan_flagsMove (.inl rfl) s
  | scanStep =>
    exact needScanning_ends hrefl fun hscan =>
      ends_mono (scanOnce_move hscan).keeps fun _ ht => ht.flagsMove (by decide)
  | scanRun =>
    exact needScanning_ends hrefl fun _ =>
      scanAll_flagsMove (by decide) s
  | mdecStep =>
    exact needDecoding_ends hrefl fun _ _ =>
      mdecOnce_flagsMove (by decide) s
  | mdecRun =>
    exact needDecoding_ends hrefl fun _ _ =>
      mdecAll_flagsMove (by decide) s
  | locate =>
    exact ends_andThen (ends_andThen (startScan_flagsMove (.inr rfl) s) (fun _ ht => ht) fun t ht =>
      ends_mono (scanAll_flagsMove (by decide) t) fun _ hu => ht.trans hu) (fun _ ht => ht) fun t ht =>
      ends_mono (mdecAll_flagsMove (by decide) t) fun _ hu => ht.trans hu
  | resolve => exact applyResolve_flagsMove (by decide) _ s
  | resolvePkt =>
    rw [commandResult]
    exact needPacket_ends hrefl fun _ =>
      applyResolve_flagsMove (by decide) _ s
  | decode =>
    rw [commandResult]
    split
    · exact (ends_raised _ _ _ _).mpr hrefl
    · exact decodeBody_flagsMove (by decide) s
  | encode => exact encodeBody_flagsMove (by decide) s
  | dissect =>
    rw [commandResult]
    exact needPacket_ends hrefl fun _ =>
      ends_andThen (applyResolve_flagsMove (by decide) _ s) (fun _ ht => ht) fun t ht =>
        ends_mono (decodeBody_flagsMove (by decide) t) fun _ hu => ht.trans hu
  | craft =>
    exact ends_andThen (applyResolve_flagsMove (by decide) _ s) (fun _ ht => ht) fun t ht =>
      ends_mono (encodeBody_flagsMove (by decide) t) fun _ hu => ht.trans hu
  | _ => exact (ends_done _ _).mpr (.of_status rfl)

/-- Settles O46: along each command's parts, flag by flag against R23's columns. -/
theorem flagsChangeOnlyAsListed : Obligations.FlagsChangeOnlyAsListed := by
  intro i s t ht
  obtain ⟨u, e, info, rfl, hmove⟩ := exec_next_of_ends (commandResult_flagsMove i s) ht
  exact ⟨hmove.rise, hmove.fall, hmove.scan⟩

end Sys2Proof.Machine

/-! PROOFS. The packet codec: what DECODE writes, what ENCODE packs and rejects, their round trip, and the two compound
commands (spec/44_layout_resolver.md R200 to R206, spec/45_packet_codec.md R220 to R229). -/

namespace Sys2Proof.Machine

/-! ### Widths and fields -/

/-- Settles O36. -/
theorem variableWidthsSumTo145 : Obligations.VariableWidthsSumTo145 := by
  refine ⟨legalDivider_iff, fun d h => ⟨rfl, rfl, ?_⟩⟩
  obtain ⟨hlo, hhi, -⟩ := (legalDivider_iff d).mp h
  simp only [agencyFixedLen, pb1LenOf, prefixBits]
  omega

theorem packetField_toNat_eq_slice {w : Nat} (p : Word256) (shift : Nat) {width : Nat} (hw : width ≤ w) :
    (packetField w p shift width).toNat = slice p shift width := by
  rw [packetField, BitVec.toNat_ofNat]
  apply Nat.mod_eq_of_lt
  rw [slice_eq_div_mod]
  exact (Nat.mod_lt _ (Nat.two_pow_pos width)).trans_le (Nat.pow_le_pow_right (by decide) hw)

/-- A decoded field is its bit range of the packet. -/
theorem packetField_toNat {w : Nat} (p : Word256) {shift width hi : Nat} (hw : width ≤ w) (hhi : hi + 1 = shift + width)
    (hpos : 0 < width) : (packetField w p shift width).toNat = bitRange p hi shift := by
  have hwidth : hi - shift + 1 = width := by omega
  rw [packetField_toNat_eq_slice p shift hw, slice_eq_div_mod, bitRange, hwidth]

theorem decodePacket_holdsFixedFields (p : Word256) (l : Layout) : holdsFixedFields (decodePacket p l) p := by
  refine ⟨?_, ?_, ?_, ?_, ?_, ?_, ?_, ?_, ?_, ?_⟩ <;> exact packetField_toNat p (by decide) rfl (by decide)

theorem decodePacket_holdsSplitFields (p : Word256) {d : Nat} (h : legalDivider d = true) :
    holdsSplitFields (decodePacket p (.known d)) p d := by
  obtain ⟨hlo, hhi, -⟩ := (legalDivider_iff d).mp h
  have haf : agencyFixedLen d = d - 47 := rfl
  have hpb1 : pb1LenOf d = 192 - d := rfl
  exact ⟨packetField_toNat p (by omega) (by omega) (by omega), packetField_toNat p (by omega) (by omega) (by omega)⟩

/-- The combined field is the two variable fields in a row (45_packet_codec.md R222). -/
theorem combined_eq_split (p : Word256) {d : Nat} (h : legalDivider d = true) :
    bitRange p 208 64 = bitRange p 208 (256 - d) * 2 ^ (192 - d) + bitRange p (255 - d) 64 := by
  obtain ⟨hlo, hhi, -⟩ := (legalDivider_iff d).mp h
  have hwhole : 208 - 64 + 1 = 192 - d + (208 - (256 - d) + 1) := by omega
  have hlow : 255 - d - 64 + 1 = 192 - d := by omega
  have hshift : 256 - d = 64 + (192 - d) := by omega
  unfold bitRange
  rw [hwhole, hlow, pow_add, Nat.mod_mul, Nat.div_div_eq_div_mul, ← pow_add, ← hshift]
  ring

theorem packetField_crc (p : Word256) : packetField 16 p 0 16 = storedCrc p := by
  apply BitVec.eq_of_toNat_eq
  rw [storedCrc_toNat]
  exact packetField_toNat p le_rfl rfl (by decide)

theorem decodePacket_unknown (p : Word256) :
    (decodePacket p .unknown).agencyFixed = 0 ∧ (decodePacket p .unknown).pb1 = 0 := ⟨rfl, rfl⟩

theorem layout_of_known {s : State} (h : s.status.layoutKnown = true) : s.layout = .known s.divider.toNat := if_pos h

theorem layout_of_unknown {s : State} (h : s.status.layoutKnown = false) : s.layout = .unknown := by
  rw [State.layout, h]; rfl

/-! ### DECODE -/

/-- What DECODE leaves: the record of PACKET under the layout, and the verification. -/
theorem exec_decode_of_ready {s : State} (hpkt : s.status.pktValid = true) (hlayout : s.status.layoutValid = true) :
    exec .decode s = .next (verifyOutcome (recordWritten s)) := by
  have hmet : unmetMask .decode s = 0 := by simp [unmetMask, packetMissing, hpkt, hlayout]
  rw [exec_eq_conclude, commandResult, missingBits_eq, hmet, if_neg (by decide), decodeBody_eq, conclude_verifyPacket]

/-- The record that DECODE leaves, by the layout (45_packet_codec.md R220 to R222). -/
theorem recordWritten_fields {s : State} (hlegal : s.status.layoutKnown = true → legalDivider s.divider.toNat = true) :
    holdsFixedFields (recordWritten s).fields s.packet ∧
    (s.status.layoutKnown = true → holdsSplitFields (recordWritten s).fields s.packet s.divider.toNat ∧
      (recordWritten s).fields.combined.toNat =
        (recordWritten s).fields.agencyFixed.toNat * 2 ^ (192 - s.divider.toNat) + (recordWritten s).fields.pb1.toNat) ∧
    (s.status.layoutKnown = false →
      (recordWritten s).fields.agencyFixed = 0 ∧ (recordWritten s).fields.pb1 = 0) := by
  have hfields : (recordWritten s).fields = decodePacket s.packet s.layout := rfl
  have hfixed := decodePacket_holdsFixedFields s.packet s.layout
  rw [hfields]
  refine ⟨hfixed, fun hknown => ?_, fun hunknown => ?_⟩
  · have hsplit := decodePacket_holdsSplitFields s.packet (hlegal hknown)
    rw [layout_of_known hknown] at hfixed ⊢
    obtain ⟨haf, hpb1⟩ := hsplit
    obtain ⟨-, -, -, -, -, -, hcombined, -⟩ := hfixed
    exact ⟨⟨haf, hpb1⟩, by rw [hcombined, haf, hpb1, combined_eq_split s.packet (hlegal hknown)]⟩
  · rw [layout_of_unknown hunknown]
    exact decodePacket_unknown s.packet

/-- Settles O38. -/
theorem decodeWritesTheRecord : Obligations.DecodeWritesTheRecord := by
  intro s hpkt hlayout hlegal
  obtain ⟨hfixed, hknown, hunknown⟩ := recordWritten_fields hlegal
  obtain ⟨hmatch, hmismatch⟩ := verifyOutcome_err (recordWritten s)
  exact ⟨_, exec_decode_of_ready hpkt hlayout, hfixed, hknown, hunknown, computeCrc_eq_serial s.packet,
    (packetField_crc s.packet).symm, hmatch, hmismatch, rfl⟩

/-! ### The misfit mask -/

theorem badFields_succ (values : List (Word256 × Nat)) : ∀ j, badFields (j + 1) values = 2 * badFields j values := by
  induction values with
  | nil => intro j; rfl
  | cons c rest ih =>
    intro j
    obtain ⟨v, width⟩ := c
    simp only [badFields, ih (j + 1), pow_succ]
    split <;> ring

theorem badFields_eq_zero_iff (values : List (Word256 × Nat)) :
    badFields 0 values = 0 ↔ ∀ c ∈ values, c.1.toNat < 2 ^ c.2 := by
  induction values with
  | nil => simp [badFields]
  | cons c rest ih =>
    obtain ⟨v, width⟩ := c
    have hfit := fits_iff v width
    simp only [badFields, badFields_succ, List.forall_mem_cons, ← ih, ← hfit]
    split_ifs with h <;> simp [h]

/-- Bit k of the mask is the misfit of value k. -/
theorem testBit_badFields (values : List (Word256 × Nat)) :
    ∀ {k : Nat} {v : Word256} {width : Nat}, values[k]? = some (v, width) →
      (badFields 0 values).testBit k = !fits v width := by
  induction values with
  | nil => intro k v width h; simp at h
  | cons c rest ih =>
    intro k v width h
    obtain ⟨v', width'⟩ := c
    simp only [badFields, badFields_succ, pow_zero]
    cases k with
    | zero =>
      obtain ⟨rfl, rfl⟩ : v' = v ∧ width' = width := by simpa using h
      rw [Nat.testBit_zero]
      cases fits v' width' <;> simp
    | succ k =>
      rw [Nat.testBit_succ, ← ih (by simpa using h)]
      congr 1
      split <;> omega

theorem misfitBit_iff {values : List (Word256 × Nat)} {k : Nat} {v : Word256} {width : Nat} (hk : k < 32)
    (h : values[k]? = some (v, width)) :
    (BitVec.ofNat 32 (badFields 0 values)).getLsbD k = true ↔ 2 ^ width ≤ v.toNat := by
  rw [BitVec.getLsbD_ofNat, decide_eq_true hk, Bool.true_and, testBit_badFields values h, Bool.not_eq_true',
    ← Bool.not_eq_true, fits_iff, Nat.not_lt]

theorem badFields_isMisfitMask (i : InputRegs) (d : Nat) :
    isMisfitMask (BitVec.ofNat 32 (badFields 0 (encodeOperands i d))) i d := by
  have hlt := badFields_lt (encodeOperands i d) 0
  have hlen : 0 + (encodeOperands i d).length = 10 := rfl
  rw [hlen] at hlt
  refine ⟨misfitBit_iff (by decide) rfl, misfitBit_iff (by decide) rfl, misfitBit_iff (by decide) rfl,
    misfitBit_iff (by decide) rfl, misfitBit_iff (by decide) rfl, misfitBit_iff (by decide) rfl,
    misfitBit_iff (by decide) rfl, misfitBit_iff (by decide) rfl, misfitBit_iff (by decide) rfl,
    misfitBit_iff (by decide) rfl, ?_⟩
  exact (Nat.mod_le _ _).trans_lt (by omega)

theorem inputsFit_iff (i : InputRegs) (d : Nat) :
    inputsFit i d ↔ ∀ c ∈ encodeOperands i d, c.1.toNat < 2 ^ c.2 := by
  simp [inputsFit, encodeOperands, agencyFixedLen, pb1LenOf, prefixBits]

theorem exec_encode_of_unknown {s : State} (hvalid : s.status.layoutValid = true)
    (hknown : s.status.layoutKnown = false) : exec .encode s = .next { s with err := .layoutUnknown, errInfo := 0 } := by
  rw [exec_eq_conclude, commandResult]
  rcases encodeBody_cases s with ⟨hinvalid, _⟩ | ⟨_, _, hres⟩ | ⟨_, hknown', _⟩
  · cases hvalid.symm.trans hinvalid
  · rw [hres]; rfl
  · cases hknown.symm.trans hknown'

theorem exec_encode_of_known {s : State} (hvalid : s.status.layoutValid = true) (hknown : s.status.layoutKnown = true) :
    (∀ bad, encodePacket s.inputs s.divider.toNat = .error bad →
      exec .encode s = .next { s with err := .fieldOutOfRange, errInfo := BitVec.ofNat 32 bad }) ∧
    ∀ v, encodePacket s.inputs s.divider.toNat = .ok v →
      exec .encode s = .next { s with packet := v, status := packetWritten s.status, err := .ok, errInfo := 0 } := by
  rw [exec_eq_conclude, commandResult]
  rcases encodeBody_cases s with ⟨hinvalid, _⟩ | ⟨_, hunknown, _⟩ | ⟨_, _, ⟨bad, herr, hres⟩ | ⟨v, hok, hres⟩⟩
  · cases hvalid.symm.trans hinvalid
  · cases hknown.symm.trans hunknown
  · refine ⟨fun bad' herr' => ?_, fun v hok => nomatch herr.symm.trans hok⟩
    cases herr.symm.trans herr'
    rw [hres]; rfl
  · refine ⟨fun bad herr => (nomatch hok.symm.trans herr), fun v' hok' => ?_⟩
    cases hok.symm.trans hok'
    rw [hres]; rfl

/-- ENCODE of values that do not all fit raises with the mask of those. -/
theorem exec_encode_of_misfit {s : State} (hvalid : s.status.layoutValid = true) (hknown : s.status.layoutKnown = true)
    (hmisfit : ¬ inputsFit s.inputs s.divider.toNat) :
    ∃ bad, exec .encode s = .next { s with err := .fieldOutOfRange, errInfo := bad } ∧
      isMisfitMask bad s.inputs s.divider.toNat := by
  have hbad : badFields 0 (encodeOperands s.inputs s.divider.toNat) ≠ 0 := fun h0 =>
    hmisfit ((inputsFit_iff _ _).mpr ((badFields_eq_zero_iff _).mp h0))
  exact ⟨_, (exec_encode_of_known hvalid hknown).1 _ (if_pos hbad), badFields_isMisfitMask _ _⟩

/-- Settles O40. -/
theorem encodeRejectsWithoutWriting : Obligations.EncodeRejectsWithoutWriting := fun _ hvalid =>
  ⟨exec_encode_of_unknown hvalid, fun hknown _ hmisfit => exec_encode_of_misfit hvalid hknown hmisfit⟩

/-! ### Packing -/

/-- The number that values make when each is pushed below those before it. -/
def packValue : Nat → List (Word256 × Nat) → Nat
  | acc, [] => acc
  | acc, (v, width) :: rest => packValue (acc * 2 ^ width + v.toNat) rest

/-- The width of values in a row. -/
def totalWidth (values : List (Word256 × Nat)) : Nat := (values.map Prod.snd).sum

@[simp] theorem totalWidth_nil : totalWidth [] = 0 := rfl

@[simp] theorem totalWidth_cons (v : Word256) (width : Nat) (rest : List (Word256 × Nat)) :
    totalWidth ((v, width) :: rest) = width + totalWidth rest := by simp [totalWidth]

theorem packValue_eq (values : List (Word256 × Nat)) :
    ∀ acc, packValue acc values = acc * 2 ^ totalWidth values + packValue 0 values := by
  induction values with
  | nil => intro acc; simp [packValue]
  | cons c rest ih =>
    intro acc
    obtain ⟨v, width⟩ := c
    rw [packValue, packValue, ih, ih (0 * 2 ^ width + v.toNat), totalWidth_cons, pow_add]
    ring

theorem packValue_append (values values' : List (Word256 × Nat)) :
    ∀ acc, packValue acc (values ++ values') = packValue (packValue acc values) values' := by
  induction values with
  | nil => intro acc; rfl
  | cons c rest ih => exact fun acc => ih _

theorem packValue_lt {values : List (Word256 × Nat)} (hfit : ∀ c ∈ values, c.1.toNat < 2 ^ c.2) :
    packValue 0 values < 2 ^ totalWidth values := by
  induction values with
  | nil => simp [packValue]
  | cons c rest ih =>
    obtain ⟨v, width⟩ := c
    obtain ⟨hv, hrest⟩ := List.forall_mem_cons.mp hfit
    rw [packValue, packValue_eq, totalWidth_cons, pow_add, Nat.zero_mul, Nat.zero_add]
    calc v.toNat * 2 ^ totalWidth rest + packValue 0 rest
        < v.toNat * 2 ^ totalWidth rest + 2 ^ totalWidth rest := Nat.add_lt_add_left (ih hrest) _
      _ = (v.toNat + 1) * 2 ^ totalWidth rest := by ring
      _ ≤ 2 ^ width * 2 ^ totalWidth rest := Nat.mul_le_mul_right _ hv

theorem pushField_toNat {acc value : Word256} {a width : Nat} (hacc : acc.toNat < 2 ^ a)
    (hvalue : value.toNat < 2 ^ width) (hroom : a + width ≤ 256) :
    (pushField acc value width).toNat = acc.toNat * 2 ^ width + value.toNat ∧
      (pushField acc value width).toNat < 2 ^ (a + width) := by
  have hlt : acc.toNat * 2 ^ width + value.toNat < 2 ^ (a + width) := by
    rw [pow_add]
    calc acc.toNat * 2 ^ width + value.toNat < acc.toNat * 2 ^ width + 2 ^ width := Nat.add_lt_add_left hvalue _
      _ = (acc.toNat + 1) * 2 ^ width := by ring
      _ ≤ 2 ^ a * 2 ^ width := Nat.mul_le_mul_right _ hacc
  have hval : (pushField acc value width).toNat = acc.toNat * 2 ^ width + value.toNat := by
    rw [pushField_of_lt acc hvalue]
    exact Nat.mod_eq_of_lt (hlt.trans_le (Nat.pow_le_pow_right (by decide) hroom))
  exact ⟨hval, hval ▸ hlt⟩

theorem pushAll_toNat (values : List (Word256 × Nat)) :
    ∀ {acc : Word256} {a : Nat}, acc.toNat < 2 ^ a → a + totalWidth values ≤ 256 →
      (∀ c ∈ values, c.1.toNat < 2 ^ c.2) → (pushAll acc values).toNat = packValue acc.toNat values := by
  induction values with
  | nil => intro acc a _ _ _; rfl
  | cons c rest ih =>
    intro acc a hacc hroom hfit
    obtain ⟨v, width⟩ := c
    obtain ⟨hv, hrest⟩ := List.forall_mem_cons.mp hfit
    rw [totalWidth_cons] at hroom
    obtain ⟨hval, hlt⟩ := pushField_toNat hacc hv (by omega)
    rw [pushAll, packValue, ih hlt (by omega) hrest, hval]

/-- A packed value is found again above the width of those after it. -/
theorem slice_of_packed {p : Word256} {values : List (Word256 × Nat)} (hp : p.toNat = packValue 0 values)
    (hfit : ∀ c ∈ values, c.1.toNat < 2 ^ c.2) {k : Nat} {v : Word256} {width shift : Nat}
    (hk : values[k]? = some (v, width)) (hshift : totalWidth (values.drop (k + 1)) = shift) :
    slice p shift width = v.toNat := by
  obtain ⟨hlt, hget⟩ := List.getElem?_eq_some_iff.mp hk
  have hsplit : values = values.take k ++ (v, width) :: values.drop (k + 1) := by
    rw [← hget, ← List.drop_eq_getElem_cons hlt, List.take_append_drop]
  have hafter : packValue 0 (values.drop (k + 1)) < 2 ^ shift :=
    hshift ▸ packValue_lt fun c hc => hfit c (List.mem_of_mem_drop hc)
  have hv : v.toNat < 2 ^ width := hfit (v, width) (List.mem_of_getElem? hk)
  rw [slice_eq_div_mod, hp, hsplit, packValue_append, packValue, packValue_eq, hshift, Nat.mul_comm _ (2 ^ shift),
    Nat.mul_add_div (Nat.two_pow_pos shift), Nat.div_eq_of_lt hafter, Nat.add_zero, Nat.mul_comm _ (2 ^ width),
    Nat.mul_add_mod, Nat.mod_eq_of_lt hv]

/-- The encoder's values with the computed CRC below them (45_packet_codec.md R223). -/
def packetValues (i : InputRegs) (d : Nat) (crc : BitVec 16) : List (Word256 × Nat) :=
  encodeOperands i d ++ [(crc.setWidth 256, 16)]

theorem totalWidth_encodeOperands (i : InputRegs) {d : Nat} (h : legalDivider d = true) :
    totalWidth (encodeOperands i d) = 240 := by
  obtain ⟨hlo, hhi, -⟩ := (legalDivider_iff d).mp h
  simp only [encodeOperands, totalWidth_cons, totalWidth_nil, agencyFixedLen, pb1LenOf, prefixBits]
  omega

theorem packetValues_fit {i : InputRegs} {d : Nat} (h : inputsFit i d) (crc : BitVec 16) :
    ∀ c ∈ packetValues i d crc, c.1.toNat < 2 ^ c.2 := by
  intro c hc
  rcases List.mem_append.mp hc with hc | hc
  · exact (inputsFit_iff i d).mp h c hc
  · obtain rfl := List.mem_singleton.mp hc
    rw [BitVec.toNat_setWidth_of_le (by decide)]
    exact crc.isLt

/-- The packet before its CRC, with 0 in the CRC's place. -/
def packetBody (i : InputRegs) (d : Nat) : Word256 := pushField (pushAll 0 (encodeOperands i d)) 0 16

theorem packetBody_toNat {i : InputRegs} {d : Nat} (hlegal : legalDivider d = true) (hfit : inputsFit i d) :
    (packetBody i d).toNat = packValue 0 (encodeOperands i d) * 2 ^ 16 ∧
      packValue 0 (encodeOperands i d) < 2 ^ 240 := by
  have hfits := (inputsFit_iff i d).mp hfit
  have hwidth := totalWidth_encodeOperands i hlegal
  have hall : (pushAll 0 (encodeOperands i d)).toNat = packValue 0 (encodeOperands i d) :=
    pushAll_toNat _ (acc := 0) (a := 0) (by decide) (by omega) hfits
  have hlt := packValue_lt hfits
  rw [hwidth] at hlt
  exact ⟨by rw [packetBody, (pushField_toNat (hall ▸ hlt) (by decide) (by decide)).1, hall,
    show (0 : Word256).toNat = 0 from rfl, Nat.add_zero], hlt⟩

/-- Bits below a multiple of 2^16 are added to it. -/
theorem toNat_or_low {body : Word256} {n : Nat} (hbody : body.toNat = n * 2 ^ 16) (crc : BitVec 16) :
    (body ||| crc.setWidth 256).toNat = n * 2 ^ 16 + crc.toNat := by
  rw [BitVec.toNat_or, BitVec.toNat_setWidth_of_le (by decide), hbody, ← Nat.shiftLeft_eq,
    ← Nat.shiftLeft_add_eq_or_of_lt crc.isLt]

theorem bitRange_above_low {p : Word256} {n low : Nat} (hp : p.toNat = n * 2 ^ 16 + low) (hlow : low < 2 ^ 16) :
    bitRange p 255 16 = n % 2 ^ 240 := by
  have hdiv : (n * 2 ^ 16 + low) / 2 ^ 16 = n := by omega
  rw [bitRange, hp, hdiv]

/-- What ENCODE answers for values that fit: the packed values with the CRC of the packet below them. -/
theorem encodePacket_of_fit {i : InputRegs} {d : Nat} (hlegal : legalDivider d = true) (hfit : inputsFit i d) :
    ∃ v, encodePacket i d = .ok v ∧ v.toNat = packValue 0 (packetValues i d (computeCrc v)) := by
  have hzero : badFields 0 (encodeOperands i d) = 0 := (badFields_eq_zero_iff _).mpr ((inputsFit_iff i d).mp hfit)
  obtain ⟨hbody, hlt⟩ := packetBody_toNat hlegal hfit
  have hvalue := toNat_or_low hbody (computeCrc (packetBody i d))
  have hcrc := (computeCrc (packetBody i d)).isLt
  have hsame : computeCrc (packetBody i d ||| (computeCrc (packetBody i d)).setWidth 256) = computeCrc (packetBody i d) :=
    crcSeesEverySingleBitFlip.1 _ _
      ((bitRange_above_low hvalue hcrc).trans (bitRange_above_low (hbody.trans (Nat.add_zero _).symm) (by decide)).symm)
  refine ⟨packetBody i d ||| (computeCrc (packetBody i d)).setWidth 256, if_neg (not_not.mpr hzero), ?_⟩
  rw [hsame, hvalue, packetValues, packValue_append, packValue, packValue, BitVec.toNat_setWidth_of_le (by decide)]

theorem decodePacket_of_packed {p : Word256} {i : InputRegs} {d : Nat} {crc : BitVec 16} (hlegal : legalDivider d = true)
    (hfit : inputsFit i d) (hp : p.toNat = packValue 0 (packetValues i d crc)) :
    fieldsEqualInputs (decodePacket p (.known d)) i ∧ storedCrc p = crc := by
  obtain ⟨hlo, hhi, -⟩ := (legalDivider_iff d).mp hlegal
  have haf : agencyFixedLen d = d - 47 := rfl
  have hpb1 : pb1LenOf d = 192 - d := rfl
  have hfits := packetValues_fit hfit crc
  have field {k w width shift : Nat} {v : Word256} (hk : (packetValues i d crc)[k]? = some (v, width))
      (hw : width ≤ w) (hshift : totalWidth ((packetValues i d crc).drop (k + 1)) = shift) :
      (packetField w p shift width).toNat = v.toNat :=
    (packetField_toNat_eq_slice p shift hw).trans (slice_of_packed hp hfits hk hshift)
  refine ⟨⟨field (k := 0) rfl (by decide) ?_, field (k := 1) rfl (by decide) ?_, field (k := 2) rfl (by decide) ?_,
    field (k := 3) rfl (by decide) ?_, field (k := 4) rfl (by decide) ?_, field (k := 5) rfl (by decide) ?_,
    field (k := 6) rfl (by omega) ?_, field (k := 7) rfl (by omega) ?_, field (k := 8) rfl (by decide) ?_,
    field (k := 9) rfl (by decide) ?_⟩, ?_⟩
  case refine_11 =>
    rw [← packetField_crc]
    apply BitVec.eq_of_toNat_eq
    exact (field (k := 10) rfl le_rfl rfl).trans (BitVec.toNat_setWidth_of_le (by decide))
  all_goals
    simp only [packetValues, encodeOperands, List.cons_append, List.nil_append, List.drop_succ_cons, List.drop_zero,
      totalWidth_cons, totalWidth_nil, haf, hpb1]
  all_goals omega

/-- ENCODE of values that fit writes a packet whose record is the values, with a matching CRC (45_packet_codec.md R228). -/
theorem exec_encode_of_fit {s : State} (hvalid : s.status.layoutValid = true) (hknown : s.status.layoutKnown = true)
    (hlegal : legalDivider s.divider.toNat = true) (hfit : inputsFit s.inputs s.divider.toNat) :
    ∃ v, exec .encode s = .next { s with packet := v, status := packetWritten s.status, err := .ok, errInfo := 0 } ∧
      fieldsEqualInputs (decodePacket v (.known s.divider.toNat)) s.inputs ∧ storedCrc v = computeCrc v := by
  obtain ⟨v, hok, hv⟩ := encodePacket_of_fit hlegal hfit
  exact ⟨v, (exec_encode_of_known hvalid hknown).2 v hok, decodePacket_of_packed hlegal hfit hv⟩

/-- DECODE under a known layout of a packet that carries its own CRC. -/
theorem exec_decode_of_matching {t : State} (hpkt : t.status.pktValid = true) (hvalid : t.status.layoutValid = true)
    (hknown : t.status.layoutKnown = true) (hcrc : storedCrc t.packet = computeCrc t.packet) :
    ∃ u, exec .decode t = .next u ∧ u.fields = decodePacket t.packet (.known t.divider.toNat) ∧
      u.status.crcMatch = true ∧ u.err = .ok := by
  refine ⟨_, exec_decode_of_ready hpkt hvalid, ?_, beq_iff_eq.mpr hcrc.symm, if_pos hcrc.symm⟩
  rw [← layout_of_known hknown]
  rfl

/-- Settles O39. -/
theorem encodeThenDecodeReturnsInputs : Obligations.EncodeThenDecodeReturnsInputs := by
  intro s hvalid hknown hlegal hfit
  obtain ⟨v, hexec, hfields, hcrc⟩ := exec_encode_of_fit hvalid hknown hlegal hfit
  obtain ⟨u, hdecode, hrecord, hmatch, herr⟩ := exec_decode_of_matching
    (t := { s with packet := v, status := packetWritten s.status, err := .ok, errInfo := 0 }) rfl hvalid hknown hcrc
  refine ⟨_, u, hexec, rfl, hdecode, hrecord ▸ hfields, ?_, hmatch, herr⟩
  rw [hrecord, ← hcrc]
  exact packetField_crc v

/-! ### The compound commands -/

/-- What ApplyResolve leaves in the layout registers, and that it leaves everything else (44_layout_resolver.md R204). -/
theorem resolvedState_keeps (a : Nat) (s : State) :
    resolvedState a s =
      { s with divider := (resolvedState a s).divider, afLen := (resolvedState a s).afLen,
               pb1Len := (resolvedState a s).pb1Len, err := (resolvedState a s).err,
               errInfo := (resolvedState a s).errInfo,
               status := { s.status with layoutValid := (resolvedState a s).status.layoutValid,
                                         layoutKnown := (resolvedState a s).status.layoutKnown } } := by
  unfold resolvedState
  extract_lets d
  split_ifs <;> rfl

theorem resolvedState_packet (a : Nat) (s : State) : (resolvedState a s).packet = s.packet :=
  (congrArg State.packet (resolvedState_keeps a s)).trans rfl

theorem resolvedState_inputs (a : Nat) (s : State) : (resolvedState a s).inputs = s.inputs :=
  (congrArg State.inputs (resolvedState_keeps a s)).trans rfl

theorem resolvedState_pktValid (a : Nat) (s : State) : (resolvedState a s).status.pktValid = s.status.pktValid :=
  (congrArg (·.status.pktValid) (resolvedState_keeps a s)).trans rfl

/-- ApplyResolve completes with a valid layout and OK, or raises with an invalid one; R204's state has its outcome. -/
theorem applyResolve_resolved (a : Nat) (s : State) :
    (∃ u, applyResolve a s = .done u ∧ resolvedState a s = u.withOutcome .ok 0 ∧ u.status.layoutValid = true) ∨
    (∃ info u, applyResolve a s = .raised .invalidDivider info u ∧
      resolvedState a s = u.withOutcome .invalidDivider info ∧ u.status.layoutValid = false) := by
  have hend := conclude_applyResolve a s
  rcases applyResolve_cases a s with ⟨d, _, _, _, hres⟩ | ⟨d, _, _, hres⟩ | ⟨_, hres⟩ <;> rw [hres] at hend ⊢ <;>
    injection hend with hend
  · exact .inr ⟨_, _, rfl, hend.symm, rfl⟩
  · exact .inl ⟨_, rfl, hend.symm, rfl⟩
  · exact .inl ⟨_, rfl, hend.symm, rfl⟩

theorem resolvedState_layoutInv (a : Nat) (s : State) : LayoutInv (resolvedState a s) := by
  have hlayout := applyResolve_layoutInv a s
  rcases applyResolve_resolved a s with ⟨u, hres, hr, _⟩ | ⟨info, u, hres, hr, _⟩ <;> rw [hres] at hlayout <;> rw [hr]
  · exact LayoutInv.congr (s := u) (by simpa using hlayout) rfl
  · exact LayoutInv.congr (s := u) (by simpa using hlayout) rfl

theorem resolvedState_err_iff (a : Nat) (s : State) :
    (resolvedState a s).err = .ok ↔ (resolvedState a s).status.layoutValid = true := by
  rcases applyResolve_resolved a s with ⟨u, _, hr, hvalid⟩ | ⟨info, u, _, hr, hvalid⟩ <;> rw [hr]
  · exact ⟨fun _ => hvalid, fun _ => rfl⟩
  · exact ⟨fun h => (nomatch h), fun h => nomatch hvalid.symm.trans h⟩

/-- DISSECT after its resolve (45_packet_codec.md R226). -/
theorem exec_dissect_of_packet {s r : State} (hr : r = resolvedState (bitRange s.packet 239 233) s)
    (hpkt : s.status.pktValid = true) :
    (r.err = .ok → exec .dissect s = exec .decode r) ∧ (r.err ≠ .ok → exec .dissect s = .next r) := by
  rw [exec_eq_conclude, commandResult, needPacket_of_valid hpkt, packetAgency_eq_bitRange]
  rcases applyResolve_resolved (bitRange s.packet 239 233) s with ⟨u, hres, hu, hvalid⟩ | ⟨info, u, hres, hu, _⟩ <;>
    rw [hres, hr, hu]
  · refine ⟨fun _ => ?_, fun h => absurd rfl h⟩
    have hpkt' : u.status.pktValid = true :=
      (congrArg (·.status.pktValid) hu).symm.trans ((resolvedState_pktValid _ s).trans hpkt)
    rw [exec_withOutcome, exec_decode_of_ready hpkt' hvalid, andThen_done, decodeBody_eq, conclude_verifyPacket]
  · exact ⟨fun h => (nomatch h), fun _ => rfl⟩

/-- Settles O41. -/
theorem dissectIsResolveThenDecode : Obligations.DissectIsResolveThenDecode := fun _ hpkt =>
  ⟨_, exec_resolvePkt_of_packet hpkt, exec_dissect_of_packet rfl hpkt⟩

theorem resolvedState_layoutValid {a : Nat} {s : State} (h : a = 10 ∨ a = 31 ∨ s.overrideCtl = 0 ∨
    48 ≤ s.overrideDivider.toNat ∧ s.overrideDivider.toNat ≤ 184 ∧ s.overrideDivider.toNat % 8 = 0) :
    (resolvedState a s).status.layoutValid = true := by
  unfold resolvedState
  extract_lets d
  split_ifs with hknown hctl hlegal
  · rfl
  · rfl
  · rfl
  · rcases h with h | h | h | h
    · exact absurd (.inl h) hknown
    · exact absurd (.inr h) hknown
    · exact absurd h hctl
    · exact absurd h hlegal

/-- A decode after a resolve leaves what neither of the two writes. -/
theorem decoded_keeps {s r : State}
    (h : r = { s with divider := r.divider, afLen := r.afLen, pb1Len := r.pb1Len, err := r.err, errInfo := r.errInfo,
                      status := { s.status with layoutValid := r.status.layoutValid,
                                                layoutKnown := r.status.layoutKnown } }) :
    let t := verifyOutcome (recordWritten r)
    t = { s with divider := t.divider, afLen := t.afLen, pb1Len := t.pb1Len, fields := t.fields,
                 crcExpected := t.crcExpected, crcActual := t.crcActual, err := t.err, errInfo := t.errInfo,
                 status := { s.status with layoutValid := t.status.layoutValid, layoutKnown := t.status.layoutKnown,
                                           fieldsValid := t.status.fieldsValid, fieldsSplit := t.status.fieldsSplit,
                                           crcValid := t.status.crcValid, crcMatch := t.status.crcMatch } } := by
  generalize r.divider = divider, r.afLen = afLen, r.pb1Len = pb1Len, r.err = err, r.errInfo = errInfo,
    r.status.layoutValid = valid, r.status.layoutKnown = known at h
  subst h
  rfl

/-- Settles O42. -/
theorem dissectWritesTheRecord : Obligations.DissectWritesTheRecord := by
  intro s r hr hpkt hresolves
  have hvalid : r.status.layoutValid = true := hr ▸ resolvedState_layoutValid hresolves
  have herr : r.err = .ok := hr ▸ (resolvedState_err_iff _ s).mpr (hr ▸ hvalid)
  have hpacket : r.packet = s.packet := hr ▸ resolvedState_packet _ s
  have hpkt' : r.status.pktValid = true := hr ▸ (resolvedState_pktValid _ s).trans hpkt
  have hlayout : LayoutInv r := hr ▸ resolvedState_layoutInv _ s
  obtain ⟨hfixed, hknown, hunknown⟩ := recordWritten_fields fun h => (hlayout.known h).1
  obtain ⟨hmatch, hmismatch⟩ := verifyOutcome_err (recordWritten r)
  rw [hpacket] at hfixed hknown
  refine ⟨verifyOutcome (recordWritten r), ?_, hvalid, rfl, rfl, rfl, rfl, rfl, rfl, hfixed, fun h => (hknown h).1,
    hunknown, rfl, hpacket ▸ computeCrc_eq_serial r.packet, ?_, beq_iff_eq, hmatch, hmismatch, ?_⟩
  · rw [(exec_dissect_of_packet hr hpkt).1 herr, exec_decode_of_ready hpkt' hvalid]
  · rw [← hpacket]
    apply BitVec.eq_of_toNat_eq
    rw [BitVec.extractLsb'_toNat, Nat.shiftRight_zero]
    exact BitVec.toNat_setWidth ..
  · exact decoded_keeps (hr ▸ resolvedState_keeps (bitRange s.packet 239 233) s)

/-- CRAFT after its resolve (45_packet_codec.md R227). -/
theorem exec_craft {s r : State} (hr : r = resolvedState s.inputs.agencyId.toNat s) :
    (r.status.layoutValid = true → exec .craft s = exec .encode r) ∧
    (r.status.layoutValid = false → exec .craft s = .next r) := by
  rw [exec_eq_conclude, commandResult]
  rcases applyResolve_resolved s.inputs.agencyId.toNat s with ⟨u, hres, hu, hvalid⟩ | ⟨info, u, hres, hu, hvalid⟩ <;>
    rw [hres, hr, hu]
  · refine ⟨fun _ => ?_, fun h => nomatch hvalid.symm.trans h⟩
    rw [exec_withOutcome, exec_eq_conclude, commandResult, andThen_done]
  · exact ⟨fun h => (nomatch hvalid.symm.trans h), fun _ => rfl⟩

/-- Settles O43. -/
theorem craftResolvesThenEncodes : Obligations.CraftResolvesThenEncodes := by
  intro s r hr
  obtain ⟨hcraft, hraised⟩ := exec_craft hr
  have hlayout : LayoutInv r := hr ▸ resolvedState_layoutInv _ s
  have hinputs : r.inputs = s.inputs := hr ▸ resolvedState_inputs _ s
  rw [← hinputs]
  refine ⟨hraised, fun hvalid hunknown => ?_, fun hknown hfit => ?_, fun hknown hmisfit => ?_⟩
  · rw [hcraft hvalid, exec_encode_of_unknown hvalid hunknown]
  · have hvalid := hlayout.knownValid hknown
    obtain ⟨v, hexec, hfields, hcrc⟩ := exec_encode_of_fit hvalid hknown (hlayout.known hknown).1 hfit
    obtain ⟨u, hdecode, hrecord, hmatch, -⟩ := exec_decode_of_matching
      (t := { r with packet := v, status := packetWritten r.status, err := .ok, errInfo := 0 }) rfl hvalid hknown hcrc
    exact ⟨_, u, (hcraft hvalid).trans hexec, rfl, hdecode, hrecord ▸ hfields, hmatch⟩
  · have hvalid := hlayout.knownValid hknown
    obtain ⟨bad, hexec, hmask⟩ := exec_encode_of_misfit hvalid hknown hmisfit
    exact ⟨bad, (hcraft hvalid).trans hexec, hexec, hmask⟩

theorem resolvedState_unknown {a : Nat} {s : State} (h10 : a ≠ 10) (h31 : a ≠ 31) (hctl : s.overrideCtl = 0) :
    (resolvedState a s).status.layoutValid = true ∧ (resolvedState a s).status.layoutKnown = false := by
  unfold resolvedState
  rw [if_neg (by simp [h10, h31]), if_pos hctl]
  exact ⟨rfl, rfl⟩

/-- What LOAD_SHORT leaves, ERR and ERR_INFO apart. -/
def packetLoaded (s : State) : State := writePacket (fromBytes s.wireInBytes) s

/-- Settles O44. -/
theorem shortPacketPathKeepsTheMiddleWhole : Obligations.ShortPacketPathKeepsTheMiddleWhole := by
  intro s h10 h31 hctl
  obtain ⟨r, hr⟩ : ∃ r, r = resolvedState s.agencyIn.toNat (packetLoaded s) := ⟨_, rfl⟩
  have hpacket : r.packet = fromBytes s.wireIn.toList := hr ▸ resolvedState_packet _ (packetLoaded s)
  have hpkt : r.status.pktValid = true := hr ▸ resolvedState_pktValid _ (packetLoaded s)
  obtain ⟨hvalid, hunknown⟩ : r.status.layoutValid = true ∧ r.status.layoutKnown = false :=
    hr ▸ resolvedState_unknown (s := packetLoaded s) h10 h31 hctl
  have hload : exec .loadShort s = .next ((packetLoaded s).withOutcome .ok 0) := rfl
  have hresolve : exec .resolve (packetLoaded s) = .next r := hr ▸ exec_resolve (packetLoaded s)
  have hrun : execAll [.loadShort, .resolve, .decode] s = .next (verifyOutcome (recordWritten r)) := by
    rw [execAll_cons_of_next hload, execAll_withOutcome (by simp), execAll_cons_of_next hresolve, execAll_singleton,
      exec_decode_of_ready hpkt hvalid]
  obtain ⟨hfixed, -, hwhole⟩ := recordWritten_fields fun h => nomatch hunknown.symm.trans h
  rw [hpacket] at hfixed
  obtain ⟨haf, hpb1⟩ := hwhole hunknown
  exact ⟨_, hrun, hpacket, rfl, hunknown, hfixed, haf, hpb1⟩

end Sys2Proof.Machine

/-! PROOFS. A packet sent in either Manchester code: the scan along its samples, the acceptance after it, and the packet
that the decoder makes of it (spec/43_burst_locator.md R160 to R174). -/

namespace Sys2Proof.Machine

/-! ### A candidate sample by sample -/

/-- A candidate that began at index `start` and has counted `len` samples. -/
def inRun (s : State) (start len : Nat) (zeros ones : BitVec 2) : State :=
  { s with status := { s.status with scanState := .inBurst }, scanPos := BitVec.ofNat 32 (start + len),
           runStart := BitVec.ofNat 32 start, runLength := BitVec.ofNat 32 len, consecZeros := zeros, consecOnes := ones }

/-- A candidate accepted with run length `len` (43_burst_locator.md R163). -/
def runAccepted (s : State) (start len : Nat) : State := burstAccepted (inRun s start len 3 0)

theorem ofNat_toNat_of_lt_capLen {s : State} {i : Nat} (h : i < s.capLen.toNat) : (BitVec.ofNat 32 i).toNat = i :=
  Nat.mod_eq_of_lt (h.trans s.capLen.isLt)

theorem ofNat_succ (n : Nat) : BitVec.ofNat 32 n + 1 = BitVec.ofNat 32 (n + 1) := (BitVec.ofNat_add ..).symm

/-- A scan step in a candidate takes the sample after those it has counted. -/
theorem scanOnce_inRun {s : State} {start len : Nat} {zeros ones : BitVec 2} {one : Bool}
    (hlen : start + len < s.capLen.toNat) (hsample : hasSample s (start + len) one) :
    scanOnce (inRun s start len zeros ones) =
      if one then .done (burstOne (pastSample (inRun s start len zeros ones)))
      else burstZero (pastSample (inRun s start len zeros ones)) := by
  have hpos : (inRun s start len zeros ones).scanPos.toNat = start + len := ofNat_toNat_of_lt_capLen hlen
  have hread : hasSample (inRun s start len zeros ones) (inRun s start len zeros ones).scanPos.toNat one := by
    rw [hpos]
    exact hsample
  rw [scanOnce_of_hasSample (hpos.trans_lt hlen) hread]
  cases one with
  | true => exact takeSample_inBurst_one rfl _
  | false => exact takeSample_inBurst_zero rfl _

theorem scanOnce_inRun_one {s : State} {start len : Nat} {zeros ones : BitVec 2} (hlen : start + len < s.capLen.toNat)
    (hsample : hasSample s (start + len) true) (hones : ones ≠ 2) :
    scanOnce (inRun s start len zeros ones) = .done (inRun s start (len + 1) 0 (ones + 1)) := by
  rw [scanOnce_inRun hlen hsample, if_pos rfl,
    burstOne_of_not_third (s := pastSample (inRun s start len zeros ones)) hones]
  simp only [inRun, pastSample, oneCounted, ofNat_succ, Nat.add_assoc]

theorem scanOnce_inRun_zero {s : State} {start len : Nat} {zeros ones : BitVec 2} (hlen : start + len < s.capLen.toNat)
    (hsample : hasSample s (start + len) false) (hzeros : zeros ≠ 2) :
    scanOnce (inRun s start len zeros ones) = .done (inRun s start (len + 1) (zeros + 1) 0) := by
  rw [scanOnce_inRun hlen hsample, if_neg Bool.false_ne_true,
    burstZero_of_not_third (s := pastSample (inRun s start len zeros ones)) hzeros]
  simp only [inRun, pastSample, zeroCounted, ofNat_succ, Nat.add_assoc]

/-- The third 0 in a row after a run of the window's length accepts a candidate that did not begin at index 0. -/
theorem scanOnce_inRun_accept {s : State} {start len : Nat} {ones : BitVec 2} (hlen : start + len < s.capLen.toNat)
    (hsample : hasSample s (start + len) false) (hstart : start ≠ 0) (hmin : 511 ≤ len + 1) (hmax : len + 1 ≤ 517) :
    scanOnce (inRun s start len 2 ones) = .done (runAccepted s start (len + 1)) := by
  have hlength : (BitVec.ofNat 32 len + 1).toNat = len + 1 := by
    rw [ofNat_succ]
    exact Nat.mod_eq_of_lt (by omega)
  have hne : BitVec.ofNat 32 start ≠ 0 := fun h => hstart (by
    rw [← ofNat_toNat_of_lt_capLen (s := s) (i := start) (by omega), h]; rfl)
  rw [scanOnce_inRun hlen hsample, if_neg Bool.false_ne_true,
    burstZero_of_third (s := pastSample (inRun s start len 2 ones)) rfl,
    evaluateBurst_accepts (s := zeroCounted (pastSample (inRun s start len 2 ones)))
      ⟨hmin.trans_eq hlength.symm, hlength.trans_le hmax⟩ hne]
  simp only [runAccepted, burstAccepted, inRun, pastSample, zeroCounted, ofNat_succ, Nat.add_assoc]
  rfl

theorem inRun_scanning (s : State) (start len : Nat) (zeros ones : BitVec 2) :
    (inRun s start len zeros ones).status.scanState.scanning = true := rfl

/-- A candidate whose last two samples differ: one sample of the last value in a row. -/
def afterChange (s : State) (start len : Nat) (last : Bool) : State :=
  inRun s start len (if last then 0 else 1) (if last then 1 else 0)

/-- A Manchester pair, whose two samples differ, never makes three equal samples in a row. -/
theorem scanLoop_pair {s : State} {start len : Nat} {last y : Bool} (hlen : start + len + 1 < s.capLen.toNat)
    (hfirst : hasSample s (start + len) y) (hsecond : hasSample s (start + len + 1) (!y)) (n : Nat) :
    scanLoop (n + 2) (afterChange s start len last) = scanLoop n (afterChange s start (len + 2) (!y)) := by
  have hlen' : start + len < s.capLen.toNat := by omega
  cases y with
  | true =>
    have hones : (if last then 1 else 0 : BitVec 2) ≠ 2 := by cases last <;> decide
    rw [afterChange, scanLoop_succ_of_done (inRun_scanning ..) (scanOnce_inRun_one hlen' hfirst hones),
      scanLoop_succ_of_done (inRun_scanning ..) (scanOnce_inRun_zero (len := len + 1) hlen hsecond (by decide))]
    rfl
  | false =>
    have hzeros : (if last then 0 else 1 : BitVec 2) ≠ 2 := by cases last <;> decide
    rw [afterChange, scanLoop_succ_of_done (inRun_scanning ..) (scanOnce_inRun_zero hlen' hfirst hzeros),
      scanLoop_succ_of_done (inRun_scanning ..) (scanOnce_inRun_one (len := len + 1) hlen hsecond (by decide))]
    rfl

/-- A row of Manchester pairs is counted through. -/
theorem scanLoop_pairs {s : State} {start len : Nat} {last : Bool} (y : Nat → Bool) (j n : Nat)
    (hlen : start + len + 2 * j ≤ s.capLen.toNat)
    (hpairs : ∀ i, i < j → hasSample s (start + len + 2 * i) (y i) ∧ hasSample s (start + len + 2 * i + 1) (!y i)) :
    ∃ last', scanLoop (n + 2 * j) (afterChange s start len last) = scanLoop n (afterChange s start (len + 2 * j) last') := by
  induction j generalizing n with
  | zero => exact ⟨last, rfl⟩
  | succ j ih =>
    obtain ⟨last', hrow⟩ := ih (n + 2) (by omega) fun i hi => hpairs i (by omega)
    obtain ⟨hfirst, hsecond⟩ := hpairs j (Nat.lt_succ_self j)
    rw [Nat.add_assoc start len] at hfirst hsecond
    refine ⟨!y j, ?_⟩
    rw [Nat.mul_succ, Nat.add_comm (2 * j) 2, ← Nat.add_assoc n, hrow, scanLoop_pair (by omega) hfirst hsecond,
      Nat.add_comm 2 (2 * j), Nat.add_assoc]

theorem scanLoop_runAccepted (s : State) (start len n : Nat) :
    scanLoop n (runAccepted s start len) = .done (runAccepted s start len) := scanLoop_of_not_scanning rfl n

/-- Three 0 samples after a row of pairs end the candidate, two of them when the last sample was a 0 already. -/
theorem scanLoop_tail {s : State} {start len : Nat} {last : Bool} (hlen : start + len + 3 ≤ s.capLen.toNat)
    (hzeros : ∀ k, k < 3 → hasSample s (start + (len + k)) false) (hstart : start ≠ 0) (hmin : 509 ≤ len)
    (hmax : len ≤ 514) (n : Nat) :
    ∃ len', len + 2 ≤ len' ∧ len' ≤ len + 3 ∧
      scanLoop (n + 3) (afterChange s start len last) = .done (runAccepted s start len') := by
  have h0 : hasSample s (start + len) false := hzeros 0 (by decide)
  have h1 : hasSample s (start + (len + 1)) false := hzeros 1 (by decide)
  have h2 : hasSample s (start + (len + 2)) false := hzeros 2 (by decide)
  cases last with
  | true =>
    refine ⟨len + 3, by omega, le_rfl, ?_⟩
    change scanLoop (n + 3) (inRun s start len 0 1) = _
    rw [scanLoop_succ_of_done (inRun_scanning ..) (scanOnce_inRun_zero (by omega) h0 (by decide)),
      scanLoop_succ_of_done (inRun_scanning ..) (scanOnce_inRun_zero (by omega) h1 (by decide))]
    exact (scanLoop_succ_of_done (inRun_scanning ..) (scanOnce_inRun_accept (len := len + 2) (by omega) h2 hstart
      (by omega) (by omega)) n).trans (scanLoop_runAccepted ..)
  | false =>
    refine ⟨len + 2, le_rfl, by omega, ?_⟩
    change scanLoop (n + 3) (inRun s start len 1 0) = _
    rw [scanLoop_succ_of_done (inRun_scanning ..) (scanOnce_inRun_zero (by omega) h0 (by decide))]
    exact (scanLoop_succ_of_done (inRun_scanning ..) (scanOnce_inRun_accept (len := len + 1) (by omega) h1 hstart
      (by omega) (by omega)) (n + 1)).trans (scanLoop_runAccepted ..)

/-! ### The samples of a packet -/

/-- A packet's 512 samples stand from index `p`, a 0 before them and three 0 samples after (43_burst_locator.md R174). -/
structure BurstAt (s : State) (packet : Word256) (secondHalf : Bool) (p : Nat) : Prop where
  pos : 1 ≤ p
  room : p + 515 ≤ s.capLen.toNat
  before : hasSample s (p - 1) false
  burst : ∀ k, k < 512 → hasSample s (p + k) (manchesterSample secondHalf packet k)
  after : ∀ k, 512 ≤ k → k < 515 → hasSample s (p + k) false

/-- The first sample of a pair. -/
theorem manchesterSample_even (secondHalf : Bool) (packet : Word256) (k : Nat) :
    manchesterSample secondHalf packet (2 * k) = Bool.xor (packet.getLsbD (255 - k)) secondHalf := by
  have hdiv : 2 * k / 2 = k := by omega
  have hmod : 2 * k % 2 = 0 := by omega
  simp [manchesterSample, hdiv, hmod]

/-- The second sample of a pair is the other value. -/
theorem manchesterSample_odd (secondHalf : Bool) (packet : Word256) (k : Nat) :
    manchesterSample secondHalf packet (2 * k + 1) = !manchesterSample secondHalf packet (2 * k) := by
  have hdiv : (2 * k + 1) / 2 = k := by omega
  have hmod : (2 * k + 1) % 2 = 1 := by omega
  rw [manchesterSample_even]
  simp [manchesterSample, hdiv, hmod]

/-- Where the scan opens its candidate: at the first 1, which is one of the first pair's samples. -/
def burstStart (packet : Word256) (secondHalf : Bool) (p : Nat) : Nat :=
  if manchesterSample secondHalf packet 0 then p else p + 1

theorem burstStart_bounds (packet : Word256) (secondHalf : Bool) (p : Nat) :
    p ≤ burstStart packet secondHalf p ∧ burstStart packet secondHalf p ≤ p + 1 := by
  unfold burstStart
  split <;> omega

/-- The scan step of Idle on each sample (43_burst_locator.md R161). -/
theorem scanOnce_idle {s : State} {one : Bool} {i : Nat} (hidle : s.status.scanState = .idle)
    (hpos : s.scanPos.toNat = i) (hlen : i < s.capLen.toNat) (hsample : hasSample s i one) :
    scanOnce s = .done (idleSample s.scanPos one (pastSample s)) := by
  subst hpos
  rw [scanOnce_of_hasSample hlen hsample, takeSample_idle (s := pastSample s) hidle]

theorem scanOnce_idle_zero {s : State} {i : Nat} (hidle : s.status.scanState = .idle) (hpos : s.scanPos.toNat = i)
    (hlen : i < s.capLen.toNat) (hsample : hasSample s i false) : scanOnce s = .done (pastSample s) :=
  scanOnce_idle hidle hpos hlen hsample

theorem scanOnce_idle_one {s : State} {i : Nat} (hidle : s.status.scanState = .idle) (hpos : s.scanPos.toNat = i)
    (hlen : i < s.capLen.toNat) (hsample : hasSample s i true) : scanOnce s = .done (inRun s i 1 0 1) := by
  have hscanPos : s.scanPos = BitVec.ofNat 32 i := by
    rw [← hpos, BitVec.ofNat_toNat, BitVec.setWidth_eq]
  rw [scanOnce_idle hidle hpos hlen hsample, idleSample, if_pos rfl]
  simp only [pastSample, inRun, hscanPos, ofNat_succ]
  rfl

/-- The first pair opens a candidate and brings it to a change. -/
theorem scanLoop_first_pair {s : State} {packet : Word256} {secondHalf : Bool} {p : Nat}
    (h : BurstAt s packet secondHalf p) (hidle : s.status.scanState = .idle) (hpos : s.scanPos.toNat = p) (n : Nat) :
    ∃ len last, burstStart packet secondHalf p + len = p + 2 ∧ 1 ≤ len ∧
      scanLoop (n + 2) s = scanLoop n (afterChange s (burstStart packet secondHalf p) len last) := by
  have hroom := h.room
  have hscan : s.status.scanState.scanning = true := (scanning_iff _).mpr (.inl hidle)
  have hfirst := h.burst 0 (by decide)
  have hsecond := h.burst 1 (by decide)
  rw [manchesterSample_odd secondHalf packet 0] at hsecond
  unfold burstStart
  cases hone : manchesterSample secondHalf packet 0 with
  | true =>
    rw [hone] at hfirst hsecond
    refine ⟨2, false, by simp, by decide, ?_⟩
    rw [scanLoop_succ_of_done hscan (scanOnce_idle_one hidle hpos (by omega) hfirst),
      scanLoop_succ_of_done (inRun_scanning ..) (scanOnce_inRun_zero (by omega) hsecond (by decide))]
    rfl
  | false =>
    rw [hone] at hfirst hsecond
    refine ⟨1, true, by simp, by decide, ?_⟩
    have hpast : (pastSample s).scanPos.toNat = p + 1 := hpos ▸ scanPos_succ_toNat (by omega)
    rw [scanLoop_succ_of_done hscan (scanOnce_idle_zero hidle hpos (by omega) hfirst),
      scanLoop_succ_of_done (s := pastSample s) hscan
        (scanOnce_idle_one (s := pastSample s) hidle hpast (show p + 1 < s.capLen.toNat by omega) hsecond)]
    rfl

/-- The scan accepts a burst found Idle (43_burst_locator.md R174). -/
theorem scanLoop_burst {s : State} {packet : Word256} {secondHalf : Bool} {p : Nat}
    (h : BurstAt s packet secondHalf p) (hidle : s.status.scanState = .idle) (hpos : s.scanPos.toNat = p) (n : Nat) :
    ∃ len, 513 ≤ len ∧ len ≤ 515 ∧
      scanLoop (n + 515) s = .done (runAccepted s (burstStart packet secondHalf p) len) := by
  have hroom := h.room
  have hp := h.pos
  obtain ⟨len, last, hstart, hlen, hfirst⟩ := scanLoop_first_pair h hidle hpos (n + 3 + 2 * 255)
  obtain ⟨hlo, hhi⟩ := burstStart_bounds packet secondHalf p
  obtain ⟨last', hrow⟩ := scanLoop_pairs (s := s) (start := burstStart packet secondHalf p) (len := len) (last := last)
    (fun i => manchesterSample secondHalf packet (2 * (i + 1))) 255 (n + 3) (by omega) fun i hi => by
      rw [hstart, show p + 2 + 2 * i = p + 2 * (i + 1) by omega, Nat.add_assoc, ← manchesterSample_odd]
      exact ⟨h.burst _ (by omega), h.burst _ (by omega)⟩
  have hzeros : ∀ k, k < 3 → hasSample s (burstStart packet secondHalf p + (len + 510 + k)) false := fun k hk => by
    rw [← Nat.add_assoc, ← Nat.add_assoc, hstart, show p + 2 + 510 + k = p + (512 + k) by omega]
    exact h.after _ (by omega) (by omega)
  have hlen' : len ≤ 2 := by omega
  have hmin : 509 ≤ len + 510 := by omega
  have hmax : len + 510 ≤ 514 := by omega
  have hend : burstStart packet secondHalf p + (len + 510) + 3 ≤ s.capLen.toNat := by
    rw [← Nat.add_assoc, hstart]
    exact hroom
  obtain ⟨len', hge, hle, htail⟩ := scanLoop_tail (last := last') hend hzeros (Nat.ne_of_gt (hp.trans hlo)) hmin hmax n
  exact ⟨len', (Nat.add_le_add_right hlen 512).trans hge, hle.trans (Nat.add_le_add_right hlen' 513),
    hfirst.trans (hrow.trans htail)⟩

/-! ### The packet made of it -/

/-- A burst whose first sample is a 1 is decoded from the second sample of each pair, one pair late. -/
theorem receivedPacket_of_first_one {packet : Word256} {secondHalf : Bool}
    (h : manchesterSample secondHalf packet 0 = true) :
    receivedPacket secondHalf packet = (if secondHalf then packet else ~~~packet) >>> 1 := by
  have hmsb : Bool.xor packet.msb secondHalf = true := by
    rw [BitVec.msb_eq_getLsbD_last, ← h, ← manchesterSample_even secondHalf packet 0]
  cases secondHalf <;> simp_all [receivedPacket]

/-- A burst whose first sample is a 0 is decoded from the first sample of each pair. -/
theorem receivedPacket_of_first_zero {packet : Word256} {secondHalf : Bool}
    (h : manchesterSample secondHalf packet 0 = false) :
    receivedPacket secondHalf packet = if secondHalf then ~~~packet else packet := by
  have hmsb : Bool.xor packet.msb secondHalf = false := by
    rw [BitVec.msb_eq_getLsbD_last, ← h, ← manchesterSample_even secondHalf packet 0]
  cases secondHalf <;> simp_all [receivedPacket]

/-- The decoder's samples, every other one from the index before the candidate's, are the received packet's bits. -/
theorem hasSample_received {s : State} {packet : Word256} {secondHalf : Bool} {p : Nat}
    (h : BurstAt s packet secondHalf p) {k : Nat} (hk : k < 256) :
    hasSample s (burstStart packet secondHalf p - 1 + 2 * k) ((receivedPacket secondHalf packet).getLsbD (255 - k)) := by
  have hp := h.pos
  unfold burstStart
  cases hfirst : manchesterSample secondHalf packet 0 with
  | true =>
    rw [receivedPacket_of_first_one hfirst, if_pos rfl, BitVec.getLsbD_ushiftRight]
    cases k with
    | zero =>
      rw [BitVec.getLsbD_of_ge _ _ (by decide)]
      exact h.before
    | succ j =>
      have hbit : (if secondHalf then packet else ~~~packet).getLsbD (1 + (255 - (j + 1))) =
          manchesterSample secondHalf packet (2 * j + 1) := by
        rw [manchesterSample_odd, manchesterSample_even, show 1 + (255 - (j + 1)) = 255 - j by omega]
        cases secondHalf <;> simp [show 255 - j < 256 by omega]
      rw [hbit, show p - 1 + 2 * (j + 1) = p + (2 * j + 1) by omega]
      exact h.burst _ (by omega)
  | false =>
    have hbit : (if secondHalf then ~~~packet else packet).getLsbD (255 - k) =
        manchesterSample secondHalf packet (2 * k) := by
      rw [manchesterSample_even]
      cases secondHalf <;> simp [show 255 - k < 256 by omega]
    rw [receivedPacket_of_first_zero hfirst, hbit, if_neg Bool.false_ne_true, Nat.add_sub_cancel]
    exact h.burst _ (by omega)

/-- The decoder leaves the packet whose bits its samples are. -/
theorem mdecAll_of_bits {s : State} {packet : Word256} (hcount : s.mdecCount = 0)
    (hbits : ∀ k, k < 256 → hasSample s (s.burstOffset.toNat + 2 * k) (packet.getLsbD (255 - k))) :
    mdecAll s = .done (packetDecoded packet s) := by
  have hzero : s.mdecCount.toNat = 0 := by rw [hcount]; rfl
  obtain ⟨acc, hdone, hacc⟩ := mdecAll_decodes (by omega) fun k hk => ⟨_, hbits k hk⟩
  have hpacket : acc = packet := BitVec.eq_of_getLsbD_eq fun i hi => by
    have hbit := hacc (255 - i) (by omega) (by omega)
    rwa [sampleAt_of_hasSample (hbits (255 - i) (by omega)), show 255 - (255 - i) = i by omega] at hbit
  rw [hdone, hpacket]

/-- An accepted burst decodes to the received packet. -/
theorem BurstAt.mdecAll_runAccepted {s : State} {packet : Word256} {secondHalf : Bool} {p : Nat}
    (h : BurstAt s packet secondHalf p) (len : Nat) :
    mdecAll (runAccepted s (burstStart packet secondHalf p) len) =
      .done (packetDecoded (receivedPacket secondHalf packet)
        (runAccepted s (burstStart packet secondHalf p) len)) := by
  have hoffset : (runAccepted s (burstStart packet secondHalf p) len).burstOffset.toNat =
      burstStart packet secondHalf p - 1 := by
    have hp := h.pos
    have hroom := h.room
    have hlt := s.capLen.isLt
    obtain ⟨hlo, hhi⟩ := burstStart_bounds packet secondHalf p
    change (BitVec.ofNat 32 (burstStart packet secondHalf p) - 1).toNat = _
    bv_omega
  exact mdecAll_of_bits rfl fun k hk => hoffset ▸ hasSample_received h hk

theorem runAccepted_runLength {s : State} {start len : Nat} (h : len ≤ 515) :
    (runAccepted s start len).runLength.toNat = len :=
  Nat.mod_eq_of_lt (by omega)

/-- Settles O28: the scan counts the pairs, whose two samples differ, up to the three 0s, and every other sample from
the one before the first 1 is the received packet's. -/
theorem manchesterBurstIsFoundAndDecoded : Obligations.ManchesterBurstIsFoundAndDecoded := by
  unfold Obligations.ManchesterBurstIsFoundAndDecoded
  intro s packet secondHalf p hp hidle hpos hroom hbefore hburst hafter
  have h : BurstAt s packet secondHalf p := ⟨hp, hroom, hbefore, hburst, hafter⟩
  obtain ⟨len, hmin, hmax, hscan⟩ := scanLoop_burst h hidle hpos (s.capLen.toNat - s.scanPos.toNat - 514)
  have hlength := runAccepted_runLength (s := s) (start := burstStart packet secondHalf p) hmax
  have hfuel : s.capLen.toNat - s.scanPos.toNat + 1 = s.capLen.toNat - s.scanPos.toNat - 514 + 515 := by omega
  have hrun : exec .scanRun s = .next ((runAccepted s (burstStart packet secondHalf p) len).withOutcome .ok 0) := by
    rw [exec_scanRun_of_scanning ((scanning_iff _).mpr (.inl hidle)), scanAll, hfuel, hscan]
    rfl
  refine ⟨_, (packetDecoded (receivedPacket secondHalf packet)
    (runAccepted s (burstStart packet secondHalf p) len)).withOutcome .ok 0, hrun, ?_, rfl, rfl,
    hmin.trans_eq hlength.symm, hlength.trans_le hmax, rfl, rfl, rfl, rfl⟩
  have hcount : (runAccepted s (burstStart packet secondHalf p) len).mdecCount.toNat ≠ 256 := Nat.zero_ne_add_one 255
  rw [exec_withOutcome, exec_mdecRun_of_ready rfl hcount, h.mdecAll_runAccepted]
  rfl

/-! ### LOCATE over zero samples and a burst -/

/-- A scan begun that has passed over `i` samples. -/
def scanBegunAt (s : State) (i : Nat) : State := { scanBegun s with scanPos := BitVec.ofNat 32 i }

theorem pastSample_scanBegunAt (s : State) (i : Nat) : pastSample (scanBegunAt s i) = scanBegunAt s (i + 1) := by
  simp only [scanBegunAt, pastSample, ofNat_succ]

/-- The scan passes over the 0 samples before a burst. -/
theorem scanLoop_zeros {s : State} (j n : Nat) (hlen : j ≤ s.capLen.toNat) (hzeros : ∀ i, i < j → hasSample s i false) :
    scanLoop (n + j) (scanBegun s) = scanLoop n (scanBegunAt s j) := by
  induction j generalizing n with
  | zero => rfl
  | succ j ih =>
    have hindex : (scanBegunAt s j).scanPos.toNat = j := ofNat_toNat_of_lt_capLen (s := s) (by omega)
    have hstep := scanOnce_idle_zero (s := scanBegunAt s j) rfl hindex (show j < s.capLen.toNat by omega)
      (hzeros j (Nat.lt_succ_self j))
    rw [Nat.add_comm j 1, ← Nat.add_assoc, ih (n + 1) (by omega) fun i hi => hzeros i (by omega),
      scanLoop_succ_of_done (by rfl) hstep, pastSample_scanBegunAt, Nat.add_comm 1 j]

/-- Settles O35: the scan passes the 0 samples, accepts the burst and its packet is decoded, as in O28. -/
theorem locateFindsTheManchesterBurst : Obligations.LocateFindsTheManchesterBurst := by
  unfold Obligations.LocateFindsTheManchesterBurst
  intro s packet secondHalf p hp hroom hzeros hburst hafter
  have h : BurstAt (scanBegunAt s p) packet secondHalf p := ⟨hp, hroom, hzeros (p - 1) (by omega), hburst, hafter⟩
  have hindex : (scanBegunAt s p).scanPos.toNat = p := ofNat_toNat_of_lt_capLen (s := s) (by omega)
  obtain ⟨len, hmin, hmax, hscan⟩ := scanLoop_burst h rfl hindex (s.capLen.toNat - p - 514)
  have hlength := runAccepted_runLength (s := scanBegunAt s p) (start := burstStart packet secondHalf p) hmax
  have hfuel : s.capLen.toNat - 0 + 1 = s.capLen.toNat - p - 514 + 515 + p := by omega
  have hall : scanAll (scanBegun s) = .done (runAccepted (scanBegunAt s p) (burstStart packet secondHalf p) len) := by
    change scanLoop (s.capLen.toNat - 0 + 1) (scanBegun s) = _
    rw [hfuel, scanLoop_zeros p _ (by omega) hzeros, hscan]
  refine ⟨(packetDecoded (receivedPacket secondHalf packet)
    (runAccepted (scanBegunAt s p) (burstStart packet secondHalf p) len)).withOutcome .ok 0, ?_, rfl, rfl, rfl, rfl,
    hmin.trans_eq hlength.symm, hlength.trans_le hmax, rfl⟩
  rw [exec_locate_of_long (by omega), hall, CmdResult.andThen, h.mdecAll_runAccepted]
  rfl

end Sys2Proof.Machine
